-- ==== Sys2Proof/Word.lean ====
section
/-! DEFINITION. The two types every layer speaks in: a byte and a run of stream bits. -/

namespace Sys2Proof

/-- A byte: 8 bits, value 0 to 255 (R11). -/
abbrev Byte := BitVec 8

/-- Bits in stream order: the head is the next bit taken from the stream (R12, R18). -/
abbrev Bits := List Bool

end Sys2Proof
end

