-- ==== Sys2Proof/Config.lean ====
section
/-! DEFINITION. The parameters of the core (R9), the values this hardware takes, and the free values:
constants with no body that stand for whatever the spec leaves unspecified. -/

namespace Sys2Proof

/-- The parameters of R9. `PORTS` is open and `PULLMAX` is a host parameter no result depends on
(D10, D11); neither is a field. -/
structure Config where
  /-- `MAXTAKE`: the largest `n` of `takeBits(n)`. -/
  maxTake : Nat
  /-- `MAXBITS`: the longest code length the tables and the decoder handle. -/
  maxBits : Nat
  /-- `LENFIELD`: the width of a code length in a compact byte. -/
  lenField : Nat
  /-- `MAXSYMS`: the most symbols one table holds. -/
  maxSyms : Nat
  /-- `LIT_SYMS`. -/
  litSyms : Nat
  /-- `LEN_SYMS`. -/
  lenSyms : Nat
  /-- `DIST_SYMS`. -/
  distSyms : Nat
  /-- `END_LEN`: the length value that is the end-of-stream marker. -/
  endLen : Nat
  /-- `DICT_MIN`. -/
  dictMin : Nat
  /-- `DICT_MAX`. -/
  dictMax : Nat
  /-- `WINSIZE`: bytes in the sliding window. -/
  winSize : Nat
  /-- `LITLEN_SPEC`: compact length list of the literal alphabet (R111). -/
  litLenSpec : List Byte
  /-- `LENLEN_SPEC`: compact length list of the length alphabet (R105). -/
  lenLenSpec : List Byte
  /-- `DISTLEN_SPEC`: compact length list of the distance alphabet (R108). -/
  distLenSpec : List Byte
  /-- `LEN_BASE`: base length per length symbol (R106). -/
  lenBase : List Nat
  /-- `LEN_EXTRA`: extra-bit count per length symbol (R106). -/
  lenExtra : List Nat
  deriving DecidableEq, Repr

/-- `LITLEN_SPEC`, the 98 bytes of R111. PRESUMED by the spec (G1, log 1). -/
def litLenList : List Byte :=
  ([11, 124, 8, 7, 28, 7, 188, 13, 76, 4, 10, 8, 12, 10, 12, 10, 8, 23, 8, 9, 7, 6, 7, 8, 7, 6, 55, 8, 23, 24, 12, 11] ++
   [7, 9, 11, 12, 6, 7, 22, 5, 7, 24, 6, 11, 9, 6, 7, 22, 7, 11, 38, 7, 9, 8, 25, 11, 8, 11, 9, 12, 8, 12, 5, 38] ++
   [5, 38, 5, 11, 7, 5, 6, 21, 6, 10, 53, 8, 7, 24, 10, 27, 44, 253, 253, 253, 252, 252, 252, 13, 12, 45, 12, 45, 12, 61, 12, 45] ++
   [44, 173]).map (BitVec.ofNat 8)

/-- The parameters of this hardware: the Value column of R9, with R105, R106, R108 and R111. -/
def hw : Config where
  maxTake := 16
  maxBits := 16
  lenField := 4
  maxSyms := 256
  litSyms := 256
  lenSyms := 16
  distSyms := 64
  endLen := 519
  dictMin := 4
  dictMax := 6
  winSize := 4096
  litLenSpec := litLenList
  lenLenSpec := [2, 35, 36, 53, 38, 23]
  distLenSpec := [2, 20, 53, 230, 247, 151, 248]
  lenBase := [3, 2, 4, 5, 6, 7, 8, 9, 10, 12, 16, 24, 40, 72, 136, 264]
  lenExtra := [0, 0, 0, 0, 0, 0, 0, 0, 1, 2, 3, 4, 5, 6, 7, 8]

/-- `LEN_BASE[s]` (R106, R236). -/
def lenBase (s : Nat) : Nat := hw.lenBase.getD s 0

/-- `LEN_EXTRA[s]` (R106, R236). -/
def lenExtra (s : Nat) : Nat := hw.lenExtra.getD s 0

/-- A FREE VALUE of `w` bits, drawn for the state element numbered `elem` at draw `k`. It has no
body: nothing can be proved of its value (U9, U10, R40; log 5). -/
opaque Config.freeBits (w elem k : Nat) : BitVec w

/-- A free flag, for a one-bit state element. -/
opaque Config.freeFlag (elem k : Nat) : Bool

/-- A free byte queue, for `inq` after a terminal result (R42, D17). -/
opaque Config.freeQueue (k : Nat) : List Byte

end Sys2Proof
end

