-- ==== Sys2Proof/Syntax.lean ====
section
/-! DEFINITION. The instructions: one constructor per row of spec/opcode_table.json, and the
contexts in which the stream is read. -/

namespace Sys2Proof

/-- The three fixed alphabets, each with a table of its own (R25). -/
inductive Alphabet where
  | lit | len | dist
  deriving DecidableEq, Repr

/-- How many symbols an alphabet has, which is also the size of its `symbol[]` memory (R9, R60). -/
def Alphabet.size : Alphabet → Nat
  | .lit => hw.litSyms
  | .len => hw.lenSyms
  | .dist => hw.distSyms

/-- One constructor per row of the opcode table. The tokens carry their operands as R93 writes
them (`HDR lit, dict`; `MATCH len, dist`); a code row is named by alphabet and symbol; the internal
operations carry the operands of files 40 to 44. -/
inductive Instr where
  /-- `_README`: the table's comment row; R116: it "is not an instruction". -/
  | readme
  /-- `HDR lit, dict` (R91, R212). -/
  | hdr (lit dict : Byte)
  /-- `LIT.RAW b` (R94, R214). -/
  | litRaw (b : Byte)
  /-- `LIT.HUF b` (R95, R215). -/
  | litHuf (b : Byte)
  /-- `MATCH2 dist` (R97, R218). -/
  | match2 (dist : BitVec 13)
  /-- `MATCH len, dist` (R96, R217). -/
  | matchN (len : BitVec 10) (dist : BitVec 13)
  /-- `END` (R98, R223). -/
  | endMark
  /-- `START` (R211). -/
  | start
  /-- `TAKEBITS n`, a 5-bit request (R130, R131). -/
  | takeBits (n : BitVec 5)
  /-- `FETCHBYTE` (R132). -/
  | fetchByte
  /-- `CONSTRUCT list, n` into the table of an alphabet (R150, R158); `n` is 9 bits, 0 to 256. -/
  | construct (table : Alphabet) (list : List Byte) (n : BitVec 9)
  /-- `DECODE T` (R170, R172). -/
  | decode (table : Alphabet)
  /-- `PUTBYTE b` (R193). -/
  | putByte (b : Byte)
  /-- `COPY len, dist` (R195). -/
  | copy (len : BitVec 10) (dist : BitVec 13)
  /-- `FLUSH` (R196). -/
  | flush
  /-- `WRAP` (R197). -/
  | wrap
  -- `LEN.0` to `LEN.15`: the codes of the length alphabet (R107, R172)
  | len0 | len1 | len2 | len3 | len4 | len5 | len6 | len7 | len8 | len9 | len10 | len11 | len12 | len13 | len14 | len15
  -- `DIST.0` to `DIST.63`: the codes of the distance alphabet (R109, R172)
  | dist0 | dist1 | dist2 | dist3 | dist4 | dist5 | dist6 | dist7 | dist8 | dist9 | dist10 | dist11 | dist12 | dist13 | dist14 | dist15
  | dist16 | dist17 | dist18 | dist19 | dist20 | dist21 | dist22 | dist23 | dist24 | dist25 | dist26 | dist27 | dist28 | dist29 | dist30 | dist31
  | dist32 | dist33 | dist34 | dist35 | dist36 | dist37 | dist38 | dist39 | dist40 | dist41 | dist42 | dist43 | dist44 | dist45 | dist46 | dist47
  | dist48 | dist49 | dist50 | dist51 | dist52 | dist53 | dist54 | dist55 | dist56 | dist57 | dist58 | dist59 | dist60 | dist61 | dist62 | dist63
  -- `LIT.0` to `LIT.255`: the codes of the literal alphabet (R113, R172)
  | lit0 | lit1 | lit2 | lit3 | lit4 | lit5 | lit6 | lit7 | lit8 | lit9 | lit10 | lit11 | lit12 | lit13 | lit14 | lit15
  | lit16 | lit17 | lit18 | lit19 | lit20 | lit21 | lit22 | lit23 | lit24 | lit25 | lit26 | lit27 | lit28 | lit29 | lit30 | lit31
  | lit32 | lit33 | lit34 | lit35 | lit36 | lit37 | lit38 | lit39 | lit40 | lit41 | lit42 | lit43 | lit44 | lit45 | lit46 | lit47
  | lit48 | lit49 | lit50 | lit51 | lit52 | lit53 | lit54 | lit55 | lit56 | lit57 | lit58 | lit59 | lit60 | lit61 | lit62 | lit63
  | lit64 | lit65 | lit66 | lit67 | lit68 | lit69 | lit70 | lit71 | lit72 | lit73 | lit74 | lit75 | lit76 | lit77 | lit78 | lit79
  | lit80 | lit81 | lit82 | lit83 | lit84 | lit85 | lit86 | lit87 | lit88 | lit89 | lit90 | lit91 | lit92 | lit93 | lit94 | lit95
  | lit96 | lit97 | lit98 | lit99 | lit100 | lit101 | lit102 | lit103 | lit104 | lit105 | lit106 | lit107 | lit108 | lit109 | lit110 | lit111
  | lit112 | lit113 | lit114 | lit115 | lit116 | lit117 | lit118 | lit119 | lit120 | lit121 | lit122 | lit123 | lit124 | lit125 | lit126 | lit127
  | lit128 | lit129 | lit130 | lit131 | lit132 | lit133 | lit134 | lit135 | lit136 | lit137 | lit138 | lit139 | lit140 | lit141 | lit142 | lit143
  | lit144 | lit145 | lit146 | lit147 | lit148 | lit149 | lit150 | lit151 | lit152 | lit153 | lit154 | lit155 | lit156 | lit157 | lit158 | lit159
  | lit160 | lit161 | lit162 | lit163 | lit164 | lit165 | lit166 | lit167 | lit168 | lit169 | lit170 | lit171 | lit172 | lit173 | lit174 | lit175
  | lit176 | lit177 | lit178 | lit179 | lit180 | lit181 | lit182 | lit183 | lit184 | lit185 | lit186 | lit187 | lit188 | lit189 | lit190 | lit191
  | lit192 | lit193 | lit194 | lit195 | lit196 | lit197 | lit198 | lit199 | lit200 | lit201 | lit202 | lit203 | lit204 | lit205 | lit206 | lit207
  | lit208 | lit209 | lit210 | lit211 | lit212 | lit213 | lit214 | lit215 | lit216 | lit217 | lit218 | lit219 | lit220 | lit221 | lit222 | lit223
  | lit224 | lit225 | lit226 | lit227 | lit228 | lit229 | lit230 | lit231 | lit232 | lit233 | lit234 | lit235 | lit236 | lit237 | lit238 | lit239
  | lit240 | lit241 | lit242 | lit243 | lit244 | lit245 | lit246 | lit247 | lit248 | lit249 | lit250 | lit251 | lit252 | lit253 | lit254 | lit255
  deriving DecidableEq, Repr

/-- Where in the stream the next bits stand, which decides how they are read (R101, R213): the
header, a token under the header's `lit` and `dict`, or one code of an alphabet. -/
inductive Ctx where
  | header
  | token (lit dict : Byte)
  | code (a : Alphabet)
  deriving DecidableEq, Repr

/-- The code rows of the length alphabet, by symbol. -/
def lenInstrs : List Instr :=
  ([Instr.len0, Instr.len1, Instr.len2, Instr.len3, Instr.len4, Instr.len5, Instr.len6, Instr.len7, Instr.len8, Instr.len9, Instr.len10, Instr.len11, Instr.len12, Instr.len13, Instr.len14, Instr.len15] : List Instr)

/-- The code rows of the distance alphabet, by symbol. -/
def distInstrs : List Instr :=
  ([Instr.dist0, Instr.dist1, Instr.dist2, Instr.dist3, Instr.dist4, Instr.dist5, Instr.dist6, Instr.dist7, Instr.dist8, Instr.dist9, Instr.dist10, Instr.dist11, Instr.dist12, Instr.dist13, Instr.dist14, Instr.dist15] : List Instr) ++
  ([Instr.dist16, Instr.dist17, Instr.dist18, Instr.dist19, Instr.dist20, Instr.dist21, Instr.dist22, Instr.dist23, Instr.dist24, Instr.dist25, Instr.dist26, Instr.dist27, Instr.dist28, Instr.dist29, Instr.dist30, Instr.dist31] : List Instr) ++
  ([Instr.dist32, Instr.dist33, Instr.dist34, Instr.dist35, Instr.dist36, Instr.dist37, Instr.dist38, Instr.dist39, Instr.dist40, Instr.dist41, Instr.dist42, Instr.dist43, Instr.dist44, Instr.dist45, Instr.dist46, Instr.dist47] : List Instr) ++
  ([Instr.dist48, Instr.dist49, Instr.dist50, Instr.dist51, Instr.dist52, Instr.dist53, Instr.dist54, Instr.dist55, Instr.dist56, Instr.dist57, Instr.dist58, Instr.dist59, Instr.dist60, Instr.dist61, Instr.dist62, Instr.dist63] : List Instr)

/-- The code rows of the literal alphabet, by symbol. -/
def litInstrs : List Instr :=
  ([Instr.lit0, Instr.lit1, Instr.lit2, Instr.lit3, Instr.lit4, Instr.lit5, Instr.lit6, Instr.lit7, Instr.lit8, Instr.lit9, Instr.lit10, Instr.lit11, Instr.lit12, Instr.lit13, Instr.lit14, Instr.lit15] : List Instr) ++
  ([Instr.lit16, Instr.lit17, Instr.lit18, Instr.lit19, Instr.lit20, Instr.lit21, Instr.lit22, Instr.lit23, Instr.lit24, Instr.lit25, Instr.lit26, Instr.lit27, Instr.lit28, Instr.lit29, Instr.lit30, Instr.lit31] : List Instr) ++
  ([Instr.lit32, Instr.lit33, Instr.lit34, Instr.lit35, Instr.lit36, Instr.lit37, Instr.lit38, Instr.lit39, Instr.lit40, Instr.lit41, Instr.lit42, Instr.lit43, Instr.lit44, Instr.lit45, Instr.lit46, Instr.lit47] : List Instr) ++
  ([Instr.lit48, Instr.lit49, Instr.lit50, Instr.lit51, Instr.lit52, Instr.lit53, Instr.lit54, Instr.lit55, Instr.lit56, Instr.lit57, Instr.lit58, Instr.lit59, Instr.lit60, Instr.lit61, Instr.lit62, Instr.lit63] : List Instr) ++
  ([Instr.lit64, Instr.lit65, Instr.lit66, Instr.lit67, Instr.lit68, Instr.lit69, Instr.lit70, Instr.lit71, Instr.lit72, Instr.lit73, Instr.lit74, Instr.lit75, Instr.lit76, Instr.lit77, Instr.lit78, Instr.lit79] : List Instr) ++
  ([Instr.lit80, Instr.lit81, Instr.lit82, Instr.lit83, Instr.lit84, Instr.lit85, Instr.lit86, Instr.lit87, Instr.lit88, Instr.lit89, Instr.lit90, Instr.lit91, Instr.lit92, Instr.lit93, Instr.lit94, Instr.lit95] : List Instr) ++
  ([Instr.lit96, Instr.lit97, Instr.lit98, Instr.lit99, Instr.lit100, Instr.lit101, Instr.lit102, Instr.lit103, Instr.lit104, Instr.lit105, Instr.lit106, Instr.lit107, Instr.lit108, Instr.lit109, Instr.lit110, Instr.lit111] : List Instr) ++
  ([Instr.lit112, Instr.lit113, Instr.lit114, Instr.lit115, Instr.lit116, Instr.lit117, Instr.lit118, Instr.lit119, Instr.lit120, Instr.lit121, Instr.lit122, Instr.lit123, Instr.lit124, Instr.lit125, Instr.lit126, Instr.lit127] : List Instr) ++
  ([Instr.lit128, Instr.lit129, Instr.lit130, Instr.lit131, Instr.lit132, Instr.lit133, Instr.lit134, Instr.lit135, Instr.lit136, Instr.lit137, Instr.lit138, Instr.lit139, Instr.lit140, Instr.lit141, Instr.lit142, Instr.lit143] : List Instr) ++
  ([Instr.lit144, Instr.lit145, Instr.lit146, Instr.lit147, Instr.lit148, Instr.lit149, Instr.lit150, Instr.lit151, Instr.lit152, Instr.lit153, Instr.lit154, Instr.lit155, Instr.lit156, Instr.lit157, Instr.lit158, Instr.lit159] : List Instr) ++
  ([Instr.lit160, Instr.lit161, Instr.lit162, Instr.lit163, Instr.lit164, Instr.lit165, Instr.lit166, Instr.lit167, Instr.lit168, Instr.lit169, Instr.lit170, Instr.lit171, Instr.lit172, Instr.lit173, Instr.lit174, Instr.lit175] : List Instr) ++
  ([Instr.lit176, Instr.lit177, Instr.lit178, Instr.lit179, Instr.lit180, Instr.lit181, Instr.lit182, Instr.lit183, Instr.lit184, Instr.lit185, Instr.lit186, Instr.lit187, Instr.lit188, Instr.lit189, Instr.lit190, Instr.lit191] : List Instr) ++
  ([Instr.lit192, Instr.lit193, Instr.lit194, Instr.lit195, Instr.lit196, Instr.lit197, Instr.lit198, Instr.lit199, Instr.lit200, Instr.lit201, Instr.lit202, Instr.lit203, Instr.lit204, Instr.lit205, Instr.lit206, Instr.lit207] : List Instr) ++
  ([Instr.lit208, Instr.lit209, Instr.lit210, Instr.lit211, Instr.lit212, Instr.lit213, Instr.lit214, Instr.lit215, Instr.lit216, Instr.lit217, Instr.lit218, Instr.lit219, Instr.lit220, Instr.lit221, Instr.lit222, Instr.lit223] : List Instr) ++
  ([Instr.lit224, Instr.lit225, Instr.lit226, Instr.lit227, Instr.lit228, Instr.lit229, Instr.lit230, Instr.lit231, Instr.lit232, Instr.lit233, Instr.lit234, Instr.lit235, Instr.lit236, Instr.lit237, Instr.lit238, Instr.lit239] : List Instr) ++
  ([Instr.lit240, Instr.lit241, Instr.lit242, Instr.lit243, Instr.lit244, Instr.lit245, Instr.lit246, Instr.lit247, Instr.lit248, Instr.lit249, Instr.lit250, Instr.lit251, Instr.lit252, Instr.lit253, Instr.lit254, Instr.lit255] : List Instr)

/-- The code rows of an alphabet, by symbol (R116). -/
def codeInstrs : Alphabet → List Instr
  | .lit => litInstrs
  | .len => lenInstrs
  | .dist => distInstrs

/-- The alphabet and symbol a code row stands for; none for every other row. -/
def Instr.codeSym? : Instr → Option (Alphabet × Nat)
  | .readme => none
  | .hdr _ _ => none
  | .litRaw _ => none
  | .litHuf _ => none
  | .match2 _ => none
  | .matchN _ _ => none
  | .endMark => none
  | .start => none
  | .takeBits _ => none
  | .fetchByte => none
  | .construct _ _ _ => none
  | .decode _ => none
  | .putByte _ => none
  | .copy _ _ => none
  | .flush => none
  | .wrap => none
  | .len0 => some (.len, 0)
  | .len1 => some (.len, 1)
  | .len2 => some (.len, 2)
  | .len3 => some (.len, 3)
  | .len4 => some (.len, 4)
  | .len5 => some (.len, 5)
  | .len6 => some (.len, 6)
  | .len7 => some (.len, 7)
  | .len8 => some (.len, 8)
  | .len9 => some (.len, 9)
  | .len10 => some (.len, 10)
  | .len11 => some (.len, 11)
  | .len12 => some (.len, 12)
  | .len13 => some (.len, 13)
  | .len14 => some (.len, 14)
  | .len15 => some (.len, 15)
  | .dist0 => some (.dist, 0)
  | .dist1 => some (.dist, 1)
  | .dist2 => some (.dist, 2)
  | .dist3 => some (.dist, 3)
  | .dist4 => some (.dist, 4)
  | .dist5 => some (.dist, 5)
  | .dist6 => some (.dist, 6)
  | .dist7 => some (.dist, 7)
  | .dist8 => some (.dist, 8)
  | .dist9 => some (.dist, 9)
  | .dist10 => some (.dist, 10)
  | .dist11 => some (.dist, 11)
  | .dist12 => some (.dist, 12)
  | .dist13 => some (.dist, 13)
  | .dist14 => some (.dist, 14)
  | .dist15 => some (.dist, 15)
  | .dist16 => some (.dist, 16)
  | .dist17 => some (.dist, 17)
  | .dist18 => some (.dist, 18)
  | .dist19 => some (.dist, 19)
  | .dist20 => some (.dist, 20)
  | .dist21 => some (.dist, 21)
  | .dist22 => some (.dist, 22)
  | .dist23 => some (.dist, 23)
  | .dist24 => some (.dist, 24)
  | .dist25 => some (.dist, 25)
  | .dist26 => some (.dist, 26)
  | .dist27 => some (.dist, 27)
  | .dist28 => some (.dist, 28)
  | .dist29 => some (.dist, 29)
  | .dist30 => some (.dist, 30)
  | .dist31 => some (.dist, 31)
  | .dist32 => some (.dist, 32)
  | .dist33 => some (.dist, 33)
  | .dist34 => some (.dist, 34)
  | .dist35 => some (.dist, 35)
  | .dist36 => some (.dist, 36)
  | .dist37 => some (.dist, 37)
  | .dist38 => some (.dist, 38)
  | .dist39 => some (.dist, 39)
  | .dist40 => some (.dist, 40)
  | .dist41 => some (.dist, 41)
  | .dist42 => some (.dist, 42)
  | .dist43 => some (.dist, 43)
  | .dist44 => some (.dist, 44)
  | .dist45 => some (.dist, 45)
  | .dist46 => some (.dist, 46)
  | .dist47 => some (.dist, 47)
  | .dist48 => some (.dist, 48)
  | .dist49 => some (.dist, 49)
  | .dist50 => some (.dist, 50)
  | .dist51 => some (.dist, 51)
  | .dist52 => some (.dist, 52)
  | .dist53 => some (.dist, 53)
  | .dist54 => some (.dist, 54)
  | .dist55 => some (.dist, 55)
  | .dist56 => some (.dist, 56)
  | .dist57 => some (.dist, 57)
  | .dist58 => some (.dist, 58)
  | .dist59 => some (.dist, 59)
  | .dist60 => some (.dist, 60)
  | .dist61 => some (.dist, 61)
  | .dist62 => some (.dist, 62)
  | .dist63 => some (.dist, 63)
  | .lit0 => some (.lit, 0)
  | .lit1 => some (.lit, 1)
  | .lit2 => some (.lit, 2)
  | .lit3 => some (.lit, 3)
  | .lit4 => some (.lit, 4)
  | .lit5 => some (.lit, 5)
  | .lit6 => some (.lit, 6)
  | .lit7 => some (.lit, 7)
  | .lit8 => some (.lit, 8)
  | .lit9 => some (.lit, 9)
  | .lit10 => some (.lit, 10)
  | .lit11 => some (.lit, 11)
  | .lit12 => some (.lit, 12)
  | .lit13 => some (.lit, 13)
  | .lit14 => some (.lit, 14)
  | .lit15 => some (.lit, 15)
  | .lit16 => some (.lit, 16)
  | .lit17 => some (.lit, 17)
  | .lit18 => some (.lit, 18)
  | .lit19 => some (.lit, 19)
  | .lit20 => some (.lit, 20)
  | .lit21 => some (.lit, 21)
  | .lit22 => some (.lit, 22)
  | .lit23 => some (.lit, 23)
  | .lit24 => some (.lit, 24)
  | .lit25 => some (.lit, 25)
  | .lit26 => some (.lit, 26)
  | .lit27 => some (.lit, 27)
  | .lit28 => some (.lit, 28)
  | .lit29 => some (.lit, 29)
  | .lit30 => some (.lit, 30)
  | .lit31 => some (.lit, 31)
  | .lit32 => some (.lit, 32)
  | .lit33 => some (.lit, 33)
  | .lit34 => some (.lit, 34)
  | .lit35 => some (.lit, 35)
  | .lit36 => some (.lit, 36)
  | .lit37 => some (.lit, 37)
  | .lit38 => some (.lit, 38)
  | .lit39 => some (.lit, 39)
  | .lit40 => some (.lit, 40)
  | .lit41 => some (.lit, 41)
  | .lit42 => some (.lit, 42)
  | .lit43 => some (.lit, 43)
  | .lit44 => some (.lit, 44)
  | .lit45 => some (.lit, 45)
  | .lit46 => some (.lit, 46)
  | .lit47 => some (.lit, 47)
  | .lit48 => some (.lit, 48)
  | .lit49 => some (.lit, 49)
  | .lit50 => some (.lit, 50)
  | .lit51 => some (.lit, 51)
  | .lit52 => some (.lit, 52)
  | .lit53 => some (.lit, 53)
  | .lit54 => some (.lit, 54)
  | .lit55 => some (.lit, 55)
  | .lit56 => some (.lit, 56)
  | .lit57 => some (.lit, 57)
  | .lit58 => some (.lit, 58)
  | .lit59 => some (.lit, 59)
  | .lit60 => some (.lit, 60)
  | .lit61 => some (.lit, 61)
  | .lit62 => some (.lit, 62)
  | .lit63 => some (.lit, 63)
  | .lit64 => some (.lit, 64)
  | .lit65 => some (.lit, 65)
  | .lit66 => some (.lit, 66)
  | .lit67 => some (.lit, 67)
  | .lit68 => some (.lit, 68)
  | .lit69 => some (.lit, 69)
  | .lit70 => some (.lit, 70)
  | .lit71 => some (.lit, 71)
  | .lit72 => some (.lit, 72)
  | .lit73 => some (.lit, 73)
  | .lit74 => some (.lit, 74)
  | .lit75 => some (.lit, 75)
  | .lit76 => some (.lit, 76)
  | .lit77 => some (.lit, 77)
  | .lit78 => some (.lit, 78)
  | .lit79 => some (.lit, 79)
  | .lit80 => some (.lit, 80)
  | .lit81 => some (.lit, 81)
  | .lit82 => some (.lit, 82)
  | .lit83 => some (.lit, 83)
  | .lit84 => some (.lit, 84)
  | .lit85 => some (.lit, 85)
  | .lit86 => some (.lit, 86)
  | .lit87 => some (.lit, 87)
  | .lit88 => some (.lit, 88)
  | .lit89 => some (.lit, 89)
  | .lit90 => some (.lit, 90)
  | .lit91 => some (.lit, 91)
  | .lit92 => some (.lit, 92)
  | .lit93 => some (.lit, 93)
  | .lit94 => some (.lit, 94)
  | .lit95 => some (.lit, 95)
  | .lit96 => some (.lit, 96)
  | .lit97 => some (.lit, 97)
  | .lit98 => some (.lit, 98)
  | .lit99 => some (.lit, 99)
  | .lit100 => some (.lit, 100)
  | .lit101 => some (.lit, 101)
  | .lit102 => some (.lit, 102)
  | .lit103 => some (.lit, 103)
  | .lit104 => some (.lit, 104)
  | .lit105 => some (.lit, 105)
  | .lit106 => some (.lit, 106)
  | .lit107 => some (.lit, 107)
  | .lit108 => some (.lit, 108)
  | .lit109 => some (.lit, 109)
  | .lit110 => some (.lit, 110)
  | .lit111 => some (.lit, 111)
  | .lit112 => some (.lit, 112)
  | .lit113 => some (.lit, 113)
  | .lit114 => some (.lit, 114)
  | .lit115 => some (.lit, 115)
  | .lit116 => some (.lit, 116)
  | .lit117 => some (.lit, 117)
  | .lit118 => some (.lit, 118)
  | .lit119 => some (.lit, 119)
  | .lit120 => some (.lit, 120)
  | .lit121 => some (.lit, 121)
  | .lit122 => some (.lit, 122)
  | .lit123 => some (.lit, 123)
  | .lit124 => some (.lit, 124)
  | .lit125 => some (.lit, 125)
  | .lit126 => some (.lit, 126)
  | .lit127 => some (.lit, 127)
  | .lit128 => some (.lit, 128)
  | .lit129 => some (.lit, 129)
  | .lit130 => some (.lit, 130)
  | .lit131 => some (.lit, 131)
  | .lit132 => some (.lit, 132)
  | .lit133 => some (.lit, 133)
  | .lit134 => some (.lit, 134)
  | .lit135 => some (.lit, 135)
  | .lit136 => some (.lit, 136)
  | .lit137 => some (.lit, 137)
  | .lit138 => some (.lit, 138)
  | .lit139 => some (.lit, 139)
  | .lit140 => some (.lit, 140)
  | .lit141 => some (.lit, 141)
  | .lit142 => some (.lit, 142)
  | .lit143 => some (.lit, 143)
  | .lit144 => some (.lit, 144)
  | .lit145 => some (.lit, 145)
  | .lit146 => some (.lit, 146)
  | .lit147 => some (.lit, 147)
  | .lit148 => some (.lit, 148)
  | .lit149 => some (.lit, 149)
  | .lit150 => some (.lit, 150)
  | .lit151 => some (.lit, 151)
  | .lit152 => some (.lit, 152)
  | .lit153 => some (.lit, 153)
  | .lit154 => some (.lit, 154)
  | .lit155 => some (.lit, 155)
  | .lit156 => some (.lit, 156)
  | .lit157 => some (.lit, 157)
  | .lit158 => some (.lit, 158)
  | .lit159 => some (.lit, 159)
  | .lit160 => some (.lit, 160)
  | .lit161 => some (.lit, 161)
  | .lit162 => some (.lit, 162)
  | .lit163 => some (.lit, 163)
  | .lit164 => some (.lit, 164)
  | .lit165 => some (.lit, 165)
  | .lit166 => some (.lit, 166)
  | .lit167 => some (.lit, 167)
  | .lit168 => some (.lit, 168)
  | .lit169 => some (.lit, 169)
  | .lit170 => some (.lit, 170)
  | .lit171 => some (.lit, 171)
  | .lit172 => some (.lit, 172)
  | .lit173 => some (.lit, 173)
  | .lit174 => some (.lit, 174)
  | .lit175 => some (.lit, 175)
  | .lit176 => some (.lit, 176)
  | .lit177 => some (.lit, 177)
  | .lit178 => some (.lit, 178)
  | .lit179 => some (.lit, 179)
  | .lit180 => some (.lit, 180)
  | .lit181 => some (.lit, 181)
  | .lit182 => some (.lit, 182)
  | .lit183 => some (.lit, 183)
  | .lit184 => some (.lit, 184)
  | .lit185 => some (.lit, 185)
  | .lit186 => some (.lit, 186)
  | .lit187 => some (.lit, 187)
  | .lit188 => some (.lit, 188)
  | .lit189 => some (.lit, 189)
  | .lit190 => some (.lit, 190)
  | .lit191 => some (.lit, 191)
  | .lit192 => some (.lit, 192)
  | .lit193 => some (.lit, 193)
  | .lit194 => some (.lit, 194)
  | .lit195 => some (.lit, 195)
  | .lit196 => some (.lit, 196)
  | .lit197 => some (.lit, 197)
  | .lit198 => some (.lit, 198)
  | .lit199 => some (.lit, 199)
  | .lit200 => some (.lit, 200)
  | .lit201 => some (.lit, 201)
  | .lit202 => some (.lit, 202)
  | .lit203 => some (.lit, 203)
  | .lit204 => some (.lit, 204)
  | .lit205 => some (.lit, 205)
  | .lit206 => some (.lit, 206)
  | .lit207 => some (.lit, 207)
  | .lit208 => some (.lit, 208)
  | .lit209 => some (.lit, 209)
  | .lit210 => some (.lit, 210)
  | .lit211 => some (.lit, 211)
  | .lit212 => some (.lit, 212)
  | .lit213 => some (.lit, 213)
  | .lit214 => some (.lit, 214)
  | .lit215 => some (.lit, 215)
  | .lit216 => some (.lit, 216)
  | .lit217 => some (.lit, 217)
  | .lit218 => some (.lit, 218)
  | .lit219 => some (.lit, 219)
  | .lit220 => some (.lit, 220)
  | .lit221 => some (.lit, 221)
  | .lit222 => some (.lit, 222)
  | .lit223 => some (.lit, 223)
  | .lit224 => some (.lit, 224)
  | .lit225 => some (.lit, 225)
  | .lit226 => some (.lit, 226)
  | .lit227 => some (.lit, 227)
  | .lit228 => some (.lit, 228)
  | .lit229 => some (.lit, 229)
  | .lit230 => some (.lit, 230)
  | .lit231 => some (.lit, 231)
  | .lit232 => some (.lit, 232)
  | .lit233 => some (.lit, 233)
  | .lit234 => some (.lit, 234)
  | .lit235 => some (.lit, 235)
  | .lit236 => some (.lit, 236)
  | .lit237 => some (.lit, 237)
  | .lit238 => some (.lit, 238)
  | .lit239 => some (.lit, 239)
  | .lit240 => some (.lit, 240)
  | .lit241 => some (.lit, 241)
  | .lit242 => some (.lit, 242)
  | .lit243 => some (.lit, 243)
  | .lit244 => some (.lit, 244)
  | .lit245 => some (.lit, 245)
  | .lit246 => some (.lit, 246)
  | .lit247 => some (.lit, 247)
  | .lit248 => some (.lit, 248)
  | .lit249 => some (.lit, 249)
  | .lit250 => some (.lit, 250)
  | .lit251 => some (.lit, 251)
  | .lit252 => some (.lit, 252)
  | .lit253 => some (.lit, 253)
  | .lit254 => some (.lit, 254)
  | .lit255 => some (.lit, 255)

end Sys2Proof
end

