-- ==== Sys2Proof/WellFormed.lean ====
section
/-! DEFINITION. Which instructions are well formed, and which can stand in the stream in a given
context. -/

namespace Sys2Proof

/-- The legal values of the header's `lit` field (R91, R103). -/
def legalLit (lit : Byte) : Bool := lit.toNat ≤ 1

/-- The legal values of the header's `dict` field (R91, R103). -/
def legalDict (dict : Byte) : Bool := hw.dictMin ≤ dict.toNat && dict.toNat ≤ hw.dictMax

/-- How many distance extra bits follow the distance code: 2 if the length is 2, else `dict`
(R96, R100). -/
def extraCount (len : Nat) (dict : Byte) : Nat := if len = 2 then 2 else dict.toNat

/-- How many symbols a compact length list describes: what stands above the `LENFIELD` bits of each
byte, plus one (R117). -/
def listSymbols (list : List Byte) : Nat := (list.map fun b => b.toNat / 2 ^ hw.lenField + 1).sum

/-- The operands of each instruction lie in the ranges the spec gives them: header fields (R103),
`MATCH` lengths 3 to 518 (R93), `MATCH2` distances 1 to 256 (R97), distances 1 to 4096 (R100),
`takeBits` 0 to 16 (R130), `construct` with a declared count up to `MAXSYMS` and a list that describes
that many symbols (R150, R151), `copy` (R195; a length of 1 is V48's). -/
def Instr.wellFormed : Instr → Bool
  | .hdr lit dict => legalLit lit && legalDict dict
  | .match2 dist => 1 ≤ dist.toNat && dist.toNat ≤ hw.distSyms * 2 ^ 2
  | .matchN len dist =>
    3 ≤ len.toNat && len.toNat < hw.endLen && 1 ≤ dist.toNat && dist.toNat ≤ hw.winSize
  | .takeBits n => n.toNat ≤ hw.maxTake
  | .construct _ list n => n.toNat ≤ hw.maxSyms && n.toNat ≤ listSymbols list
  | .copy len dist =>
    1 ≤ len.toNat && len.toNat < hw.endLen && 1 ≤ dist.toNat && dist.toNat ≤ hw.winSize
  | _ => true

/-- A context the core can be in: a token is read only after a legal header (R212). -/
def Ctx.legal : Ctx → Bool
  | .header => true
  | .token lit dict => legalLit lit && legalDict dict
  | .code _ => true

/-- The instructions the stream can hold in a context: the header (R91); a raw or a coded literal as
`lit` says, a back-reference whose distance fits in a distance symbol and its extra bits, or the end
marker (R93, R100); the codes of the alphabet asked for (R107, R109, R113). -/
def Ctx.holds : Ctx → Instr → Bool
  | .header, .hdr lit dict => (Instr.hdr lit dict).wellFormed
  | .token lit _, .litRaw _ => lit == 0
  | .token lit _, .litHuf _ => lit != 0
  | .token _ _, .match2 dist => (Instr.match2 dist).wellFormed
  | .token _ dict, .matchN len dist =>
    (Instr.matchN len dist).wellFormed && dist.toNat ≤ hw.distSyms * 2 ^ dict.toNat
  | .token _ _, .endMark => true
  | .code a, i => match i.codeSym? with
    | some (b, _) => a == b
    | none => false
  | _, _ => false

end Sys2Proof
end

