-- ==== Sys2Proof/Decode.lean ====
section
/-! DEFINITION. The stream format: bit order, the three fixed codes, the decoder (total on any bits,
rejecting by name), and after it the encoder. -/

namespace Sys2Proof

/-! ### Bits -/

/-- The value of a raw group of bits, least significant first (R67). -/
def bitsToNat : Bits → Nat
  | [] => 0
  | b :: bs => b.toNat + 2 * bitsToNat bs

/-- The low `n` bits of `v`, least significant first (R67). -/
def natBits : Nat → Nat → Bits
  | 0, _ => []
  | n + 1, v => (v % 2 == 1) :: natBits n (v / 2)

/-- The eight bits of a byte in stream order: bit 0 first (R66). -/
def byteBits (b : Byte) : Bits := natBits 8 b.toNat

/-- The bytes a run of stream bits is stored in, the last one padded with 0 bits (R66, R114): `n`
bytes at most. -/
def packBytes : Nat → Bits → List Byte
  | 0, _ => []
  | _ + 1, [] => []
  | n + 1, b :: bs => BitVec.ofNat 8 (bitsToNat ((b :: bs).take 8)) :: packBytes n ((b :: bs).drop 8)

/-! ### The three fixed codes -/

/-- What the stream carries of a code of length `l` and value `c`: its bits most significant first,
each inverted (R68, R171). -/
def codePattern : Nat → Nat → Bits
  | 0, _ => []
  | l + 1, c => (c / 2 ^ l % 2 == 0) :: codePattern l c

/-- R107: (length, code value) of length symbols 0 to 15. -/
def lenCodes : List (Nat × Nat) :=
  ([(2, 0), (3, 2), (3, 3), (3, 4), (4, 10), (4, 11), (4, 12), (5, 26), (5, 27), (5, 28), (5, 29), (6, 60), (6, 61), (6, 62), (7, 126), (7, 127)] : List (Nat × Nat))

/-- R109: (length, code value) of distance symbols 0 to 63. -/
def distCodes : List (Nat × Nat) :=
  ([(2, 0), (4, 4), (4, 5), (5, 12), (5, 13), (5, 14), (5, 15), (6, 32), (6, 33), (6, 34), (6, 35), (6, 36), (6, 37), (6, 38), (6, 39), (6, 40)] : List (Nat × Nat)) ++
  ([(6, 41), (6, 42), (6, 43), (6, 44), (6, 45), (6, 46), (7, 94), (7, 95), (7, 96), (7, 97), (7, 98), (7, 99), (7, 100), (7, 101), (7, 102), (7, 103)] : List (Nat × Nat)) ++
  ([(7, 104), (7, 105), (7, 106), (7, 107), (7, 108), (7, 109), (7, 110), (7, 111), (7, 112), (7, 113), (7, 114), (7, 115), (7, 116), (7, 117), (7, 118), (7, 119)] : List (Nat × Nat)) ++
  ([(8, 240), (8, 241), (8, 242), (8, 243), (8, 244), (8, 245), (8, 246), (8, 247), (8, 248), (8, 249), (8, 250), (8, 251), (8, 252), (8, 253), (8, 254), (8, 255)] : List (Nat × Nat))

/-- R113: (length, code value) of byte values 0 to 255. -/
def litCodes : List (Nat × Nat) :=
  ([(11, 1974), (12, 3968), (12, 3969), (12, 3970), (12, 3971), (12, 3972), (12, 3973), (12, 3974), (12, 3975), (8, 226), (7, 92), (12, 3976), (12, 3977), (7, 93), (12, 3978), (12, 3979)] : List (Nat × Nat)) ++
  ([(12, 3980), (12, 3981), (12, 3982), (12, 3983), (12, 3984), (12, 3985), (12, 3986), (12, 3987), (12, 3988), (12, 3989), (13, 8118), (12, 3990), (12, 3991), (12, 3992), (12, 3993), (12, 3994)] : List (Nat × Nat)) ++
  ([(4, 0), (10, 982), (8, 227), (12, 3995), (10, 983), (12, 3996), (10, 984), (8, 228), (7, 94), (7, 95), (8, 229), (9, 484), (7, 96), (6, 26), (7, 97), (8, 230)] : List (Nat × Nat)) ++
  ([(7, 98), (6, 27), (7, 99), (7, 100), (7, 101), (7, 102), (8, 231), (7, 103), (7, 104), (8, 232), (8, 233), (12, 3997), (11, 1975), (7, 105), (9, 485), (11, 1976)] : List (Nat × Nat)) ++
  ([(12, 3998), (6, 28), (7, 106), (6, 29), (6, 30), (5, 2), (7, 107), (8, 234), (8, 235), (6, 31), (11, 1977), (9, 486), (6, 32), (7, 108), (6, 33), (6, 34)] : List (Nat × Nat)) ++
  ([(7, 109), (11, 1978), (6, 35), (6, 36), (6, 37), (7, 110), (9, 487), (8, 236), (9, 488), (9, 489), (11, 1979), (8, 237), (11, 1980), (9, 490), (12, 3999), (8, 238)] : List (Nat × Nat)) ++
  ([(12, 4000), (5, 3), (6, 38), (6, 39), (6, 40), (5, 4), (6, 41), (6, 42), (6, 43), (5, 5), (11, 1981), (7, 111), (5, 6), (6, 44), (5, 7), (5, 8)] : List (Nat × Nat)) ++
  ([(6, 45), (10, 985), (5, 9), (5, 10), (5, 11), (5, 12), (8, 239), (7, 112), (8, 240), (8, 241), (10, 986), (11, 1982), (11, 1983), (12, 4001), (12, 4002), (12, 4003)] : List (Nat × Nat)) ++
  ([(13, 8119), (13, 8120), (13, 8121), (13, 8122), (13, 8123), (13, 8124), (13, 8125), (13, 8126), (13, 8127), (13, 8128), (13, 8129), (13, 8130), (13, 8131), (13, 8132), (13, 8133), (13, 8134)] : List (Nat × Nat)) ++
  ([(13, 8135), (13, 8136), (13, 8137), (13, 8138), (13, 8139), (13, 8140), (13, 8141), (13, 8142), (13, 8143), (13, 8144), (13, 8145), (13, 8146), (13, 8147), (13, 8148), (13, 8149), (13, 8150)] : List (Nat × Nat)) ++
  ([(13, 8151), (13, 8152), (13, 8153), (13, 8154), (13, 8155), (13, 8156), (13, 8157), (13, 8158), (13, 8159), (13, 8160), (13, 8161), (13, 8162), (13, 8163), (13, 8164), (13, 8165), (13, 8166)] : List (Nat × Nat)) ++
  ([(12, 4004), (12, 4005), (12, 4006), (12, 4007), (12, 4008), (12, 4009), (12, 4010), (12, 4011), (12, 4012), (12, 4013), (12, 4014), (12, 4015), (12, 4016), (12, 4017), (12, 4018), (12, 4019)] : List (Nat × Nat)) ++
  ([(12, 4020), (12, 4021), (12, 4022), (12, 4023), (12, 4024), (12, 4025), (12, 4026), (12, 4027), (12, 4028), (12, 4029), (12, 4030), (12, 4031), (12, 4032), (12, 4033), (12, 4034), (12, 4035)] : List (Nat × Nat)) ++
  ([(12, 4036), (12, 4037), (12, 4038), (12, 4039), (12, 4040), (12, 4041), (12, 4042), (12, 4043), (12, 4044), (12, 4045), (12, 4046), (12, 4047), (12, 4048), (12, 4049), (12, 4050), (12, 4051)] : List (Nat × Nat)) ++
  ([(13, 8167), (12, 4052), (13, 8168), (13, 8169), (13, 8170), (12, 4053), (13, 8171), (13, 8172), (13, 8173), (12, 4054), (13, 8174), (13, 8175), (13, 8176), (13, 8177), (12, 4055), (13, 8178)] : List (Nat × Nat)) ++
  ([(13, 8179), (13, 8180), (12, 4056), (12, 4057), (12, 4058), (13, 8181), (13, 8182), (13, 8183), (13, 8184), (13, 8185), (13, 8186), (13, 8187), (13, 8188), (13, 8189), (13, 8190), (13, 8191)] : List (Nat × Nat))

/-- The code table of an alphabet, by symbol. -/
def codesOf : Alphabet → List (Nat × Nat)
  | .lit => litCodes
  | .len => lenCodes
  | .dist => distCodes

/-- The stream bits of symbol `s` of an alphabet. -/
def codeBits (a : Alphabet) (s : Nat) : Bits :=
  match (codesOf a)[s]? with
  | some (l, c) => codePattern l c
  | none => []

/-- The first symbol, counting from `s`, whose stream pattern the bits start with, and the bits after
it (R180; at most one qualifies, since the codes are prefix codes). -/
def matchCode : List (Nat × Nat) → Nat → Bits → Option (Nat × Bits)
  | [], _, _ => none
  | (l, c) :: rows, s, bits =>
    if (codePattern l c).isPrefixOf bits then some (s, bits.drop l) else matchCode rows (s + 1) bits

/-! ### Length and distance -/

/-- `len = LEN_BASE[s] + e` (R100). -/
def lenOf (s e : Nat) : Nat := lenBase s + e

/-- `dist = ((S << x) | X) + 1` (R100, R219). -/
def distOf (sd x extra : Nat) : Nat := ((sd <<< x) ||| extra) + 1

/-- The length symbol whose range holds `len` (R100: every length has exactly one encoding; R107). -/
def lenSymbol (len : Nat) : Nat :=
  ((List.range hw.lenSyms).find? fun s => lenBase s ≤ len && len < lenBase s + 2 ^ lenExtra s).getD 0

/-! ### The decoder -/

/-- Why bits do not decode. -/
inductive Reject where
  /-- The bits end inside the instruction (R134). -/
  | endOfInput
  /-- A header field is illegal (R103). -/
  | formatError
  /-- Sixteen bits match no code (R173). -/
  | invalidCode
  deriving DecidableEq, Repr

/-- A raw group of `n` bits (R131). -/
def takeGroup (n : Nat) (bits : Bits) : Except Reject (Nat × Bits) :=
  if bits.length < n then .error .endOfInput else .ok (bitsToNat (bits.take n), bits.drop n)

/-- One code of an alphabet (R180; R174 for which error comes first). -/
def takeCode (a : Alphabet) (bits : Bits) : Except Reject (Nat × Bits) :=
  match matchCode (codesOf a) 0 bits with
  | some r => .ok r
  | none => if bits.length < hw.maxBits then .error .endOfInput else .error .invalidCode

/-- The header (R91, R212): `lit` is checked before `dict` is read (D6). -/
def decodeHeader (bits : Bits) : Except Reject (Instr × Bits) := do
  let (lit, bits) ← takeGroup 8 bits
  if !legalLit (BitVec.ofNat 8 lit) then .error .formatError else
  let (dict, bits) ← takeGroup 8 bits
  if !legalDict (BitVec.ofNat 8 dict) then .error .formatError else
  .ok (.hdr (BitVec.ofNat 8 lit) (BitVec.ofNat 8 dict), bits)

/-- A literal after its control bit (R94, R95). -/
def decodeLiteral (lit : Byte) (bits : Bits) : Except Reject (Instr × Bits) :=
  if lit = 0 then do
    let (b, bits) ← takeGroup 8 bits
    .ok (.litRaw (BitVec.ofNat 8 b), bits)
  else do
    let (b, bits) ← takeCode .lit bits
    .ok (.litHuf (BitVec.ofNat 8 b), bits)

/-- A back-reference or the end marker after its control bit (R96 to R98, R100). -/
def decodePair (dict : Byte) (bits : Bits) : Except Reject (Instr × Bits) := do
  let (s, bits) ← takeCode .len bits
  let (e, bits) ← takeGroup (lenExtra s) bits
  let len := lenOf s e
  if len = hw.endLen then .ok (.endMark, bits) else
  let x := extraCount len dict
  let (sd, bits) ← takeCode .dist bits
  let (extra, bits) ← takeGroup x bits
  let dist := BitVec.ofNat 13 (distOf sd x extra)
  if len = 2 then .ok (.match2 dist, bits) else .ok (.matchN (BitVec.ofNat 10 len) dist, bits)

/-- The decoder: the instruction the bits start with in a context, and the bits after it (R90, R92,
R101); by name why there is none. -/
def decode : Ctx → Bits → Except Reject (Instr × Bits)
  | .header, bits => decodeHeader bits
  | .token _ _, [] => .error .endOfInput
  | .token lit _, false :: bits => decodeLiteral lit bits
  | .token _ dict, true :: bits => decodePair dict bits
  | .code a, bits => do
    let (s, bits) ← takeCode a bits
    match (codeInstrs a)[s]? with
    | some i => .ok (i, bits)
    | none => .error .invalidCode

/-! ### The encoder -/

/-- The bits of a back-reference (R96, R97, R100): control bit, length code and extra bits, distance
code and `x` extra bits. -/
def encodePair (len dist x : Nat) : Bits :=
  let s := lenSymbol len
  true :: codeBits .len s ++ natBits (lenExtra s) (len - lenBase s) ++
    codeBits .dist ((dist - 1) / 2 ^ x) ++ natBits x ((dist - 1) % 2 ^ x)

/-- The stream bits of an instruction in a context (R91, R94 to R98, R107, R109, R113). The internal
operations and the comment row have none (R116). -/
def encode (ctx : Ctx) : Instr → Bits
  | .hdr lit dict => byteBits lit ++ byteBits dict
  | .litRaw b => false :: byteBits b
  | .litHuf b => false :: codeBits .lit b.toNat
  | .match2 dist => encodePair 2 dist.toNat 2
  | .matchN len dist => match ctx with
    | .token _ dict => encodePair len.toNat dist.toNat dict.toNat
    | _ => []
  | .endMark =>
    true :: codeBits .len (lenSymbol hw.endLen) ++
      natBits (lenExtra (lenSymbol hw.endLen)) (hw.endLen - lenBase (lenSymbol hw.endLen))
  | i => match i.codeSym? with
    | some (a, s) => codeBits a s
    | none => []

/-! ### One word of the opcode table -/

/-- The longest instruction, in bits: 30 (R99), rounded up to whole bytes. -/
def longestBits : Nat := 32

/-- An instruction's bits as the opcode table numbers them: bit `i` of the word is stream bit `i`
(R116); every bit from `nbits` up is 0. -/
def wordBits (nbits w : Nat) : Bits := natBits longestBits (w % 2 ^ nbits)

/-- The same bits as `IN` stores them: byte 0 first, bit 0 of each byte first (R66). -/
def wordBytes (nbits w : Nat) : List Byte := packBytes 4 (wordBits nbits w)

/-- Whether a word is exactly one code of an alphabet, in `nbits` bits or in the whole bytes that
hold it. -/
def isCodeWord (a : Alphabet) (nbits w : Nat) : Bool :=
  (codesOf a).any fun (l, c) =>
    (nbits == l || nbits == (l + 7) / 8 * 8) && w == bitsToNat (codePattern l c)

/-- The context a table word is read in. The stream does not say it and the table's rows of
different contexts share words, so this is the model's choice (DESIGN CHOICE, log 15): a whole
legal header is the header; `END` and the all-zero 9-bit literal are tokens; else a word that is
exactly a code is that code, the small alphabets first; else a token. -/
def tableContext (nbits w : Nat) : Ctx :=
  let b0 : Byte := BitVec.ofNat 8 w
  let b1 : Byte := BitVec.ofNat 8 (w / 256)
  if nbits == 16 && decide (w < 65536) && legalLit b0 && legalDict b1 then .header
  else if (nbits == 16 && w == 65281) || (decide (8 < nbits) && w == 0) then .token 0 4
  else if isCodeWord .len nbits w then .code .len
  else if isCodeWord .dist nbits w then .code .dist
  else if isCodeWord .lit nbits w then .code .lit
  else .token 0 4

/-- The instruction the decoder reads from a word of the opcode table, in the context
`tableContext` chooses; none where the decoder refuses. -/
def decodeTableWord (nbits w : Nat) : Option Instr :=
  match decode (tableContext nbits w) (wordBits nbits w) with
  | .ok (i, _) => some i
  | .error _ => none

end Sys2Proof
end

