-- ==== Sys2Proof/Machine/State.lean ====
section
/-! DEFINITION. The state of the core, the reasons a step can stop, and the state after reset. -/

namespace Sys2Proof.Machine

/-- The control FSM's states (R29). -/
inductive FsmState where
  | idle | readHeader | decodeLoop | done | error
  deriving DecidableEq, Repr

/-- The five error kinds (R250). -/
inductive ErrorKind where
  | outputError | endOfInput | formatError | distanceTooFar | invalidCode
  deriving DecidableEq, Repr

/-- The status of a session (R30). -/
inductive Status where
  | success
  | failed (k : ErrorKind)
  deriving DecidableEq, Repr

/-- A Huffman table (R25): `count[0..16]`, the `symbol[]` memory, and the signed status of its
construction. Counts, slots and symbol numbers are plain naturals (R44 allows it); the memory's size
is the alphabet's. -/
structure HuffmanTable where
  count : List Nat
  symbol : List Nat
  status : Int
  deriving DecidableEq, Repr

/-- One transaction at a data interface, with its answer (R62, R63). -/
inductive Transaction where
  /-- A pull; an empty answer is the permanent end of input. -/
  | pull (answer : List Byte)
  /-- A push of `bytes`, answered `failed`. -/
  | push (bytes : List Byte) (failed : Bool)
  deriving DecidableEq, Repr

/-- What can wait at the core's interfaces (log 10): hardware reset (R290); an operation put to the
block directly, which is `start` at the control interface (R211) or a sub-block request (R130, R150,
R170, R190); a request to read one code of an alphabet from the stream (R170). -/
inductive Request where
  | hardReset
  | issue (i : Instr)
  | code (a : Alphabet)
  deriving DecidableEq, Repr

/-- The window memory: (address, byte) cells, addresses strictly rising. -/
abbrev Memory := List Host.Cell

/-- The whole state: the registers of R21 (numbered as there), the memories of R60, the state the
spec implies, and the environment at the two data interfaces (log 7). -/
structure State where
  /-- `bitbuf` (#0, R22). -/
  bitbuf : BitVec 23
  /-- `bitcnt` (#1, R22). -/
  bitcnt : BitVec 5
  /-- `state` (#2, R29). -/
  state : FsmState
  /-- `status` (#3, R30). -/
  status : Status
  /-- `lit` (#4, R31). -/
  lit : Byte
  /-- `dict` (#5, R31). -/
  dict : Byte
  /-- `next` (#6, R28): where the next emitted byte goes. -/
  next : BitVec 13
  /-- `first_fill` (#7, R28). -/
  firstFill : Bool
  /-- `mlen` (#8, R32). -/
  mlen : BitVec 10
  /-- `mdist` (#9, R32). -/
  mdist : BitVec 13
  /-- `sym` (#10, R27). -/
  sym : BitVec 8
  /-- `code` (#11, R27). -/
  code : BitVec 17
  /-- `firstc` (#12, R27). -/
  firstc : BitVec 18
  /-- `index` (#13, R27). -/
  index : BitVec 9
  /-- `clen` (#14, R27). -/
  clen : BitVec 5
  /-- `left` (#15, R26), two's complement. -/
  left : BitVec 18
  /-- `tables_built` (#16, R33). -/
  tablesBuilt : Bool
  /-- `nsym` (R26). -/
  nsym : BitVec 9
  /-- `length[0..255]` (R26). -/
  lengths : List (BitVec 4)
  /-- `offs[1..16]` (R26). -/
  offs : List (BitVec 9)
  /-- `LIT` (R25). -/
  litTable : HuffmanTable
  /-- `LEN` (R25). -/
  lenTable : HuffmanTable
  /-- `DIST` (R25). -/
  distTable : HuffmanTable
  /-- `win` (space WIN, R60, R64): a byte nothing has written is not listed. -/
  win : Memory
  /-- `inq` (R23). -/
  inq : List Byte
  /-- Ghost (R24): bytes taken from `inq` since session start. -/
  consumed : Nat
  /-- Environment (R62): the chunks the Input Source will answer the coming pulls with. -/
  src : List (List Byte)
  /-- Environment (R63): the answers the Output Sink will give the coming pushes. -/
  sink : List Bool
  /-- Environment (R15, R78): the transactions made so far, oldest first. -/
  bus : List Transaction
  /-- Environment: what waits at the interfaces (log 10). -/
  req : Option Request
  /-- The model's own: the response of `TAKEBITS` or `FETCHBYTE` (R130) run on its own (log 9). -/
  result : BitVec 16
  /-- The model's own: how many times free values have been drawn (log 5). -/
  fresh : Nat
  deriving DecidableEq, Repr

/-- Why the machine stops. -/
inductive Fault where
  /-- Raised by a window read (`readWin`, `readRun`) of a byte nothing has written: R40 allows a
  model to fault there and R41 shows no session does. Safe. -/
  | unwrittenWindowByte
  deriving DecidableEq, Repr

/-- Why the model gives no meaning. -/
inductive Refusal where
  /-- Raised by an arm of `exec` whose instruction has no meaning yet. Safe. -/
  | notModelled (mnemonic : String)
  /-- Raised by `execReadme`: the row is a comment, no instruction (R116). Safe. -/
  | notAnInstruction
  /-- Raised by `execStart` in `ReadHeader` or `DecodeLoop` (R211, U11). Safe. -/
  | startWhileRunning
  /-- Raised by `execStart` before the tables are built, also where the boot build is still to come
  (R293, U12). Safe. -/
  | startBeforeTables
  /-- Raised by `takeBits` for `n` over 16 (R130, U17). Safe. -/
  | takeBitsTooWide
  /-- Raised by `constructInto` for a list that describes fewer than `n` symbols (R151, U18). Safe. -/
  | listTooShort
  /-- Raised by `decodeSym` on a table whose status is negative (R179, U19). Safe. -/
  | overSubscribedTable
  /-- Raised by `boot` for a configuration R10 rules out (R293, U20). Safe. -/
  | badConfiguration
  /-- Raised by `cycle` for a request that is no operation of an interface (log 10). Safe. -/
  | notARequest
  deriving DecidableEq, Repr

/-- A table memory at reset: unspecified by R40, named all-zero (DESIGN CHOICE, log 3). -/
def blankTable (size : Nat) : HuffmanTable where
  count := List.replicate (hw.maxBits + 1) 0
  symbol := List.replicate size 0
  status := 0

/-- The machine right after reset: the "After reset" column of R40. The elements R40 leaves
unspecified are 0 (DESIGN CHOICE, log 3) and the window has no byte written (log 4). Nothing is bound
to the interfaces and nothing waits there. -/
def State.reset : State where
  bitbuf := 0
  bitcnt := 0
  state := .idle
  status := .success
  lit := 0
  dict := 0
  next := 0
  firstFill := true
  mlen := 0
  mdist := 0
  sym := 0
  code := 0
  firstc := 0
  index := 0
  clen := 0
  left := 0
  tablesBuilt := false
  nsym := 0
  lengths := List.replicate hw.maxSyms 0
  offs := List.replicate hw.maxBits 0
  litTable := blankTable hw.litSyms
  lenTable := blankTable hw.lenSyms
  distTable := blankTable hw.distSyms
  win := []
  inq := []
  consumed := 0
  src := []
  sink := []
  bus := []
  req := none
  result := 0
  fresh := 0

end Sys2Proof.Machine
end

