-- ==== Sys2Proof/Machine/Flags.lean ====
section
/-! DEFINITION. The one-bit state elements of R35 and the tests that read them, and the two status
registers a host reads. The core has no arithmetic condition codes (R35). -/

namespace Sys2Proof.Machine

/-- `first_fill <- 0`: the wrap's main effect; no other operation of a session clears it, and none
sets it again (R35, R197). -/
def State.clearFirstFill (s : State) : State := { s with firstFill := false }

/-- The distance check's test: `first_fill = 1 and mdist > next` (R220). -/
def State.distanceTooFar (s : State) : Bool := s.firstFill && decide (s.next < s.mdist)

/-- Whether literals are Huffman-coded: `lit` is not 0 (R101, R214, R215, R230). -/
def State.codedLiterals (s : State) : Bool := s.lit != 0

/-- Whether a session is running (R211, R232). -/
def State.running (s : State) : Bool :=
  match s.state with
  | .readHeader | .decodeLoop => true
  | .idle | .done | .error => false

/-- Whether a session has ended and none has been started since: nothing is executed then (R232, R260). -/
def State.ended (s : State) : Bool :=
  match s.state with
  | .done | .error => true
  | .idle | .readHeader | .decodeLoop => false

/-- The number of each FSM state (R29). -/
def FsmState.number : FsmState → BitVec 3
  | .idle => 0
  | .readHeader => 1
  | .decodeLoop => 2
  | .done => 3
  | .error => 4

/-- The number of each error kind (R30, R250). -/
def ErrorKind.number : ErrorKind → BitVec 3
  | .outputError => 1
  | .endOfInput => 2
  | .formatError => 3
  | .distanceTooFar => 4
  | .invalidCode => 5

/-- The number of each status (R30). -/
def Status.number : Status → BitVec 3
  | .success => 0
  | .failed k => k.number

/-- A host's read of a control and status register: CSR 0 is `STATE`, CSR 1 is `STATUS`; there is no
other (R34). -/
def State.readCsr (s : State) : Nat → Option (BitVec 3)
  | 0 => some s.state.number
  | 1 => some s.status.number
  | _ => none

end Sys2Proof.Machine
end

