-- ==== Sys2Proof/Machine/Ops.lean ====
section
/-! DEFINITION. The named operations over registers and memories: how an operation ends, the window
memory, the two data interfaces, taking an error, the free values, and the operations of the bit
reader and the sliding window. -/

namespace Sys2Proof.Machine

/-! ### How an operation ends (R256) -/

/-- An operation ends with a value, or by `raise K`, or where the model stops. The state rides along a
raise because the transactions made so far stand (R257, R258). -/
inductive Res (α : Type) where
  | ok (a : α) (s : State)
  | raised (k : ErrorKind) (s : State)
  | fault (f : Fault)
  | refused (r : Refusal)

/-- Go on with the value; every other ending passes through unchanged: no operation inspects, converts
or swallows an error (R256). -/
def Res.bind {α β : Type} (r : Res α) (f : α → State → Res β) : Res β :=
  match r with
  | .ok a s => f a s
  | .raised k s => .raised k s
  | .fault x => .fault x
  | .refused x => .refused x

/-! ### Free values (R21, R26, R32, R40, R42; log 5, log 6) -/

/-- The decoder's scratch has no value between operations (R21, R27). -/
def State.forgetDecoder (s : State) : State :=
  { s with
    code := Config.freeBits 17 11 s.fresh
    firstc := Config.freeBits 18 12 s.fresh
    index := Config.freeBits 9 13 s.fresh
    clen := Config.freeBits 5 14 s.fresh
    fresh := s.fresh + 1 }

/-- The builder's scratch is unspecified outside `construct` (R26). -/
def State.forgetBuilder (s : State) : State :=
  { s with
    clen := Config.freeBits 5 14 s.fresh
    left := Config.freeBits 18 15 s.fresh
    nsym := Config.freeBits 9 17 s.fresh
    lengths := (List.range hw.maxSyms).map fun i => Config.freeBits 4 (100 + i) s.fresh
    offs := (List.range hw.maxBits).map fun i => Config.freeBits 9 (400 + i) s.fresh
    fresh := s.fresh + 1 }

/-- `mlen` and `mdist` are dead outside a back-reference (R32). -/
def State.forgetMatch (s : State) : State :=
  { s with
    mlen := Config.freeBits 10 8 s.fresh
    mdist := Config.freeBits 13 9 s.fresh
    fresh := s.fresh + 1 }

/-- Every register of the session but `state` and `status` gets a free value; the window, the tables
and `tables_built` are left (R40, R42). -/
def State.forgetRegs (s : State) : State :=
  { s with
    bitbuf := Config.freeBits 23 0 s.fresh
    bitcnt := Config.freeBits 5 1 s.fresh
    lit := Config.freeBits 8 4 s.fresh
    dict := Config.freeBits 8 5 s.fresh
    next := Config.freeBits 13 6 s.fresh
    firstFill := Config.freeFlag 7 s.fresh
    mlen := Config.freeBits 10 8 s.fresh
    mdist := Config.freeBits 13 9 s.fresh
    sym := Config.freeBits 8 10 s.fresh
    code := Config.freeBits 17 11 s.fresh
    firstc := Config.freeBits 18 12 s.fresh
    index := Config.freeBits 9 13 s.fresh
    clen := Config.freeBits 5 14 s.fresh
    left := Config.freeBits 18 15 s.fresh
    nsym := Config.freeBits 9 17 s.fresh
    lengths := (List.range hw.maxSyms).map fun i => Config.freeBits 4 (100 + i) s.fresh
    offs := (List.range hw.maxBits).map fun i => Config.freeBits 9 (400 + i) s.fresh
    inq := Config.freeQueue s.fresh
    fresh := s.fresh + 1 }

/-- What a terminal result leaves: only `STATE` and `STATUS` are defined (R42, D17); no window byte
has a value any more. The tables outlive the session (R25, R33; log 22). -/
def State.endSession (s : State) : State := { s.forgetRegs with win := [] }

/-! ### Taking an error, and there is no return from one -/

/-- `raise K` (R226, R256, R257): `state <- Error`, `status <- K`; nothing is saved, nothing is
flushed (R258, R259), every other register is unspecified (R42). `Error` is left only by `start` or
hardware reset (R260): `State.newSession` and `State.hardReset` below. -/
def State.raise (k : ErrorKind) (s : State) : State :=
  { s.endSession with state := .error, status := .failed k }

/-- The successful end of a session (R225). -/
def State.finish (s : State) : State :=
  { s.endSession with state := .done, status := .success }

/-- Session creation: the "After `start`" column of R40 (R211, R291). The elements that column leaves
unspecified get free values; the window is not cleared; tables and `tables_built` are unchanged. -/
def State.newSession (s : State) : State :=
  { s.forgetRegs with
    bitbuf := 0
    bitcnt := 0
    inq := []
    next := 0
    firstFill := true
    consumed := 0
    state := .readHeader
    status := .success }

/-- Hardware reset in any state (R290): the machine as after reset, without a push; what is bound to
the interfaces and what they have seen stays (log 20). -/
def State.hardReset (s : State) : State :=
  { State.reset with src := s.src, sink := s.sink, bus := s.bus, fresh := s.fresh }

/-- An operation run as a whole instruction: a raise is taken (R256). -/
def Res.toOutcome (r : Res Unit) : Host.Outcome State Fault Refusal :=
  match r with
  | .ok _ s => .next s
  | .raised k s => .next (s.raise k)
  | .fault f => .fault f
  | .refused x => .refused x

/-! ### The window memory (R60, R64) -/

/-- What a memory reads at an address; none where nothing has been written (log 4). -/
def Memory.read : Memory → Nat → Option Byte
  | [], _ => none
  | (k, b) :: m, a => if k = a then some b else Memory.read m a

/-- Write one byte, keeping the addresses rising. -/
def Memory.write : Memory → Nat → Byte → Memory
  | [], a, b => [(a, b)]
  | (k, v) :: m, a, b =>
    if a < k then (a, b) :: (k, v) :: m
    else if a = k then (a, b) :: m
    else (k, v) :: Memory.write m a b

/-- Addresses strictly rising from `lo` and inside the window. -/
def Memory.wfFrom : Nat → Memory → Bool
  | _, [] => true
  | lo, (k, _) :: m => decide (lo ≤ k) && decide (k < hw.winSize) && Memory.wfFrom (k + 1) m

/-- The canonical form: addresses strictly rising, all inside the window. No entry can equal what an
unlisted address reads as, since that is no value. -/
def Memory.wf (m : Memory) : Bool := Memory.wfFrom 0 m

/-- `win[0 .. n-1]` in ascending order from `a`; none where a byte is unwritten. -/
def Memory.readRun (m : Memory) : Nat → Nat → Option (List Byte)
  | _, 0 => some []
  | a, n + 1 =>
    match m.read (a % hw.winSize), Memory.readRun m (a + 1) n with
    | some b, some bs => some (b :: bs)
    | _, _ => none

/-- `MemRead(WIN, a, 1)`; the address is reduced modulo WINSIZE (R64). -/
def readWin (a : Nat) (s : State) : Res Byte :=
  match s.win.read (a % hw.winSize) with
  | some b => .ok b s
  | none => .fault .unwrittenWindowByte

/-- `win[0 .. n-1]` for a flush (R64, R196). -/
def readRun (n : Nat) (s : State) : Res (List Byte) :=
  match s.win.readRun 0 n with
  | some bs => .ok bs s
  | none => .fault .unwrittenWindowByte

/-- `MemWrite(WIN, a, 1, b)`; the address is reduced modulo WINSIZE (R64). -/
def writeWin (a : Nat) (b : Byte) (s : State) : State :=
  { s with win := s.win.write (a % hw.winSize) b }

/-! ### The data interfaces (R62, R63) -/

/-- `Pull()`: the next chunk of the script; an empty answer, or an exhausted script, is the permanent
end of input (R62; log 7). -/
def pull (s : State) : List Byte × State :=
  match s.src with
  | [] => ([], { s with bus := s.bus ++ [.pull []] })
  | [] :: _ => ([], { s with bus := s.bus ++ [.pull []] })
  | (b :: c) :: cs => (b :: c, { s with src := cs, bus := s.bus ++ [.pull (b :: c)] })

/-- `Push(bytes)`: answers `failed` as the script says; an exhausted script accepts (R63; log 7). -/
def push (bytes : List Byte) (s : State) : Bool × State :=
  match s.sink with
  | [] => (false, { s with bus := s.bus ++ [.push bytes false] })
  | f :: fs => (f, { s with sink := fs, bus := s.bus ++ [.push bytes f] })

/-! ### bit_reader (40_bit_reader.md) -/

/-- `fetchByte()` (R132). -/
def fetchByte (s : State) : Res Byte :=
  match s.inq with
  | b :: q => .ok b { s with inq := q, consumed := s.consumed + 1 }
  | [] =>
    match pull s with
    | ([], s) => .raised .endOfInput s
    | (b :: q, s) => .ok b { s with inq := q, consumed := s.consumed + 1 }

/-- The refill loop of R131: `while bitcnt < n`, loading one byte at bit offset `bitcnt`. Two rounds
always suffice for `n` up to 16. Answers `val`; `bitcnt` counts its valid bits. -/
def refill : Nat → Nat → BitVec 23 → State → Res (BitVec 23)
  | 0, _, val, s => .ok val s
  | fuel + 1, n, val, s =>
    if s.bitcnt.toNat < n then
      (fetchByte s).bind fun b s =>
        refill fuel n (val ||| (b.setWidth 23 <<< s.bitcnt.toNat)) { s with bitcnt := s.bitcnt + 8 }
    else .ok val s

/-- `takeBits(n)` (R131); a request over 16 bits is refused (R130). -/
def takeBits (n : Nat) (s : State) : Res Nat :=
  if hw.maxTake < n then .refused .takeBitsTooWide else
  (refill 2 n s.bitbuf s).bind fun val s =>
    .ok (val.toNat &&& (2 ^ n - 1))
      { s with bitbuf := val >>> n, bitcnt := s.bitcnt - BitVec.ofNat 5 n }

/-! ### sliding_window_circular_buffer (43_sliding_window.md) -/

/-- `flush()` (R196): one push of `win[0 .. next-1]`, none when `next = 0` (D7). -/
def flush (s : State) : Res Unit :=
  if s.next.toNat = 0 then .ok () s else
  (readRun s.next.toNat s).bind fun bytes s =>
    match push bytes s with
    | (true, s) => .raised .outputError s
    | (false, s) => .ok () s

/-- `wrap()` (R197): push first, then `next <- 0` and `first_fill <- 0`. -/
def wrap (s : State) : Res Unit :=
  (flush s).bind fun _ s => .ok () { s with next := 0 }.clearFirstFill

/-- `putByte(b)` (R193). -/
def putByte (b : Byte) (s : State) : Res Unit :=
  let s := writeWin s.next.toNat b s
  let s := { s with next := s.next + 1 }
  if s.next.toNat = hw.winSize then wrap s else .ok () s

/-- The address a copy reads: `(next - mdist) mod WINSIZE` (R195, R236). -/
def State.sourceIndex (s : State) : Nat :=
  (s.next.toNat + hw.winSize - s.mdist.toNat % hw.winSize) % hw.winSize

/-- The byte moves of a copy, `mlen` of them still to go: strictly one after another, the source index
computed anew for each (R76, R195); `mlen` counts down (R32). -/
def copyLoop : Nat → State → Res Unit
  | 0, s => .ok () s
  | n + 1, s =>
    (readWin s.sourceIndex s).bind fun b s =>
      (putByte b s).bind fun _ s => copyLoop n { s with mlen := BitVec.ofNat 10 n }

/-- `copy(len, dist)` with its operands in `mlen` and `mdist` (R195). -/
def copy (len : BitVec 10) (dist : BitVec 13) (s : State) : Res Unit :=
  copyLoop len.toNat { s with mlen := len, mdist := dist }

end Sys2Proof.Machine
end

