-- ==== Sys2Proof/Machine/BitReader.lean ====
section
/-! DEFINITION. The operations of `bit_reader` as instructions of their own (40_bit_reader.md). -/

namespace Sys2Proof.Machine

/-- `TAKEBITS n` (R131): the response is left in `result` (R130; log 9). -/
def execTakeBits (n : BitVec 5) (s : State) : Host.Outcome State Fault Refusal :=
  ((takeBits n.toNat s).bind fun v s => .ok () { s with result := BitVec.ofNat 16 v }).toOutcome

/-- `FETCHBYTE` (R132): the byte is left in `result` (log 9). -/
def execFetchByte (s : State) : Host.Outcome State Fault Refusal :=
  ((fetchByte s).bind fun b s => .ok () { s with result := b.setWidth 16 }).toOutcome

end Sys2Proof.Machine
end

