-- ==== Sys2Proof/Machine/Huffman.lean ====
section
/-! DEFINITION. canonical_huffman_table_builder and huffman_decoder: `construct` (R150 to R159), the
boot build (R292), `decode` (R170 to R179), and the tables the fixed lists give (R107, R109, R112). -/

namespace Sys2Proof.Machine

/-- The table memory of an alphabet (R25). -/
def State.table (s : State) : Alphabet → HuffmanTable
  | .lit => s.litTable
  | .len => s.lenTable
  | .dist => s.distTable

/-- Write the table memory of an alphabet. -/
def State.setTable (s : State) (a : Alphabet) (t : HuffmanTable) : State :=
  match a with
  | .lit => { s with litTable := t }
  | .len => { s with lenTable := t }
  | .dist => { s with distTable := t }

/-! ### construct -/

/-- Step 1 (R151, R117): one length per symbol; a byte's low `LENFIELD` bits are a length, and what
stands above them plus one is how many symbols have it (D3); lengths beyond the declared count are
dropped. -/
def expandLengths (list : List Byte) (n : Nat) : List Nat :=
  (list.flatMap fun b =>
    List.replicate (b.toNat / 2 ^ hw.lenField + 1) (b.toNat % 2 ^ hw.lenField)).take n

/-- Step 2 (R152): how many symbols have each length 0 to MAXBITS. -/
def histogram (lengths : List Nat) : List Nat :=
  (List.range (hw.maxBits + 1)).map fun l => lengths.count l

/-- Step 3 (R154): `left <- left * 2 - count[l]` over the counts of lengths 1 on, stopping at the
first negative value. -/
def validate : Int → List Nat → Int
  | left, [] => left
  | left, c :: counts =>
    let left := left * 2 - (c : Int)
    if left < 0 then left else validate left counts

/-- Step 4a (R155): the slot of the first symbol of each length, from the counts of lengths 1 on. -/
def slotOffsets : Nat → List Nat → List Nat
  | _, [] => []
  | slot, c :: counts => slot :: slotOffsets (slot + c) counts

/-- The width of a `symbol[]` entry (R25, R60). -/
def symbolBits : Alphabet → Nat
  | .lit => 8
  | .len => 4
  | .dist => 6

/-- What a `symbol[]` entry of an alphabet holds once symbol `k` is placed in it: `k`, where the entry
can hold it; where it can not, the spec states no entry, and it is free (DESIGN CHOICE, log 26). -/
def storedSymbol (a : Alphabet) (draw k : Nat) : Nat :=
  if k < a.size then k else (Config.freeBits (symbolBits a) (1000 + k) draw).toNat

/-- What `decode` reads of a slot past an alphabet's `symbol[]` memory: the spec states no value, and
it is free (DESIGN CHOICE, log 26). -/
def absentSlot (a : Alphabet) (draw : Nat) : Nat := (Config.freeBits (symbolBits a) 900 draw).toNat

/-- Step 4b (R156): each symbol of non-zero length goes to its length's next free slot, in ascending
symbol order; `offs` is indexed from length 1. A slot nothing is written to keeps its old entry
(R159 f); a slot past the memory holds nothing (log 26). `store` says what an entry holds of a
symbol. -/
def placeSymbols (store : Nat → Nat) : List Nat → Nat → List Nat → List Nat → List Nat
  | [], _, _, symbol => symbol
  | 0 :: lengths, k, offs, symbol => placeSymbols store lengths (k + 1) offs symbol
  | (l + 1) :: lengths, k, offs, symbol =>
    placeSymbols store lengths (k + 1) (offs.set l (offs.getD l 0 + 1))
      (symbol.set (offs.getD l 0) (store k))

/-- Steps 2 to 4 on expanded lengths (R152 to R157), over the old contents of the table's memory. -/
def buildTable (store : Nat → Nat) (old : HuffmanTable) (lengths : List Nat) : HuffmanTable :=
  let count := histogram lengths
  if count.getD 0 0 = lengths.length then { old with count, status := 0 } else
  let left := validate 1 count.tail
  if left < 0 then { old with count, status := left } else
  { count, symbol := placeSymbols store lengths 0 (slotOffsets 0 count.tail) old.symbol, status := left }

/-- `construct(list, n)` into the table of an alphabet (R150, R158). A list too short for its declared
count is refused (D4). It raises nothing: a bad list is reported through the table's status (R157).
Every other declared count runs, also one above the size of the table's memory (log 26). -/
def constructInto (a : Alphabet) (list : List Byte) (n : Nat) (s : State) : Res Unit :=
  if listSymbols list < n then .refused .listTooShort else
  .ok () (s.setTable a
    (buildTable (storedSymbol a s.fresh) (s.table a) (expandLengths list n))).forgetBuilder

/-! ### The configuration and the boot build -/

/-- The constraints of R10, which a model checks of its configuration (R293: no list is
over-subscribed). -/
def configOk (c : Config) : Bool :=
  let listOk (list : List Byte) (n : Nat) :=
    listSymbols list == n && decide (0 ≤ (buildTable id (blankTable n) (expandLengths list n)).status)
  ((List.range c.lenSyms).any fun k =>
    decide (c.endLen ≤ c.lenBase.getD k 0 + 2 ^ c.lenExtra.getD k 0 - 1)) &&
  (c.lenExtra.all fun e => decide (e ≤ c.maxTake)) &&
  decide (c.dictMax ≤ c.maxTake) &&
  decide (((c.distSyms - 1) <<< c.dictMax ||| (2 ^ c.dictMax - 1)) + 1 ≤ c.winSize) &&
  listOk c.litLenSpec c.litSyms && listOk c.lenLenSpec c.lenSyms && listOk c.distLenSpec c.distSyms

/-- `boot()` (R292): the three tables are built one after another, then `tables_built <- 1`. A bad
configuration never leaves boot (R293, D19). -/
def boot (s : State) : Res Unit :=
  if configOk hw then
    (constructInto .lit hw.litLenSpec hw.litSyms s).bind fun _ s =>
    (constructInto .len hw.lenLenSpec hw.lenSyms s).bind fun _ s =>
    (constructInto .dist hw.distLenSpec hw.distSyms s).bind fun _ s =>
      .ok () { s with tablesBuilt := true }
  else .refused .badConfiguration

/-! ### The fixed tables as constants (R25, R160; D15) -/

/-- The literal table of R112. -/
def fixedLit : HuffmanTable where
  count := [0, 0, 0, 0, 1, 11, 20, 21, 16, 7, 5, 10, 91, 74, 0, 0, 0]
  symbol :=
    ([32, 69, 97, 101, 105, 108, 110, 111, 114, 115, 116, 117, 45, 49, 65, 67] : List Nat) ++
    ([68, 73, 76, 78, 79, 82, 83, 84, 98, 99, 100, 102, 103, 104, 109, 112] : List Nat) ++
    ([10, 13, 40, 41, 44, 46, 48, 50, 51, 52, 53, 55, 56, 61, 66, 70] : List Nat) ++
    ([77, 80, 85, 107, 119, 9, 34, 39, 42, 47, 54, 57, 58, 71, 72, 87] : List Nat) ++
    ([91, 95, 118, 120, 121, 43, 62, 75, 86, 88, 89, 93, 33, 36, 38, 113] : List Nat) ++
    ([122, 0, 60, 63, 74, 81, 90, 92, 106, 123, 124, 1, 2, 3, 4, 5] : List Nat) ++
    ([6, 7, 8, 11, 12, 14, 15, 16, 17, 18, 19, 20, 21, 22, 23, 24] : List Nat) ++
    ([25, 27, 28, 29, 30, 31, 35, 37, 59, 64, 94, 96, 125, 126, 127, 176] : List Nat) ++
    ([177, 178, 179, 180, 181, 182, 183, 184, 185, 186, 187, 188, 189, 190, 191, 192] : List Nat) ++
    ([193, 194, 195, 196, 197, 198, 199, 200, 201, 202, 203, 204, 205, 206, 207, 208] : List Nat) ++
    ([209, 210, 211, 212, 213, 214, 215, 216, 217, 218, 219, 220, 221, 222, 223, 225] : List Nat) ++
    ([229, 233, 238, 242, 243, 244, 26, 128, 129, 130, 131, 132, 133, 134, 135, 136] : List Nat) ++
    ([137, 138, 139, 140, 141, 142, 143, 144, 145, 146, 147, 148, 149, 150, 151, 152] : List Nat) ++
    ([153, 154, 155, 156, 157, 158, 159, 160, 161, 162, 163, 164, 165, 166, 167, 168] : List Nat) ++
    ([169, 170, 171, 172, 173, 174, 175, 224, 226, 227, 228, 230, 231, 232, 234, 235] : List Nat) ++
    ([236, 237, 239, 240, 241, 245, 246, 247, 248, 249, 250, 251, 252, 253, 254, 255] : List Nat)
  status := 0

/-- The length table of R107. -/
def fixedLen : HuffmanTable where
  count := [0, 0, 1, 3, 3, 4, 3, 2, 0, 0, 0, 0, 0, 0, 0, 0, 0]
  symbol := List.range hw.lenSyms
  status := 0

/-- The distance table of R109. -/
def fixedDist : HuffmanTable where
  count := [0, 0, 1, 0, 2, 4, 15, 26, 16, 0, 0, 0, 0, 0, 0, 0, 0]
  symbol := List.range hw.distSyms
  status := 0

/-- The table each fixed list gives (R160). -/
def fixedTable : Alphabet → HuffmanTable
  | .lit => fixedLit
  | .len => fixedLen
  | .dist => fixedDist

/-- The core with its tables as the boot build leaves them (R292). -/
def State.withFixedTables (s : State) : State :=
  { s with litTable := fixedLit, lenTable := fixedLen, distTable := fixedDist, tablesBuilt := true }

/-! ### decode -/

/-- The loop of R172 over `count[clen]`, `clen` from 1 to MAXBITS: one inverted bit at a time, most
significant code bit first (R171); after the last length, `InvalidCode` (R173). A slot past the memory
reads as `absent` (log 26). -/
def decodeWalk (symbol : List Nat) (absent : Nat) :
    List Nat → (code firstc index : Nat) → State → Res Nat
  | [], _, _, _, s => .raised .invalidCode s
  | cnt :: counts, code, firstc, index, s =>
    (takeBits 1 s).bind fun t s =>
      let code := code ||| (t ^^^ 1)
      if code < firstc + cnt then .ok (symbol.getD (index + (code - firstc)) absent) s
      else decodeWalk symbol absent counts (code <<< 1) ((firstc + cnt) <<< 1) (index + cnt) s

/-- `sym` gets the symbol and the scratch is dead again (R27). -/
def State.setSym (k : Nat) (s : State) : State :=
  { s with sym := BitVec.ofNat 8 k }.forgetDecoder

/-- `decode(T)` (R170, R172); on a table whose construction was over-subscribed it is refused
(R179). -/
def decodeSym (a : Alphabet) (s : State) : Res Nat :=
  if (s.table a).status < 0 then .refused .overSubscribedTable else
  (decodeWalk (s.table a).symbol (absentSlot a s.fresh) (s.table a).count.tail 0 0 0 s).bind
    fun k s => .ok k (s.setSym k)

/-! ### The operations as instructions of their own -/

/-- `CONSTRUCT list, n` (R158). -/
def execConstruct (table : Alphabet) (list : List Byte) (n : BitVec 9) (s : State) :
    Host.Outcome State Fault Refusal :=
  (constructInto table list n.toNat s).toOutcome

/-- `DECODE T` (R172): the symbol is left in `sym`. -/
def execDecode (table : Alphabet) (s : State) : Host.Outcome State Fault Refusal :=
  ((decodeSym table s).bind fun _ s => .ok () s).toOutcome

end Sys2Proof.Machine
end

