-- ==== Sys2Proof/Machine/Codes.lean ====
section
/-! DEFINITION. The code rows `LEN.*`, `DIST.*`, `LIT.*` (R107, R109, R113): each is the end of R172 in
which that symbol's code was matched. The fetch has taken the code's bits (log 12). -/

namespace Sys2Proof.Machine

/-- What `decode` does once it has matched a symbol's code: `sym` gets the symbol (R172, R27). -/
def codeMatched (k : Nat) (s : State) : Host.Outcome State Fault Refusal := .next (s.setSym k)

/-- `LEN.0`. -/
def execLen0 (s : State) : Host.Outcome State Fault Refusal := codeMatched 0 s
/-- `LEN.1`. -/
def execLen1 (s : State) : Host.Outcome State Fault Refusal := codeMatched 1 s
/-- `LEN.2`. -/
def execLen2 (s : State) : Host.Outcome State Fault Refusal := codeMatched 2 s
/-- `LEN.3`. -/
def execLen3 (s : State) : Host.Outcome State Fault Refusal := codeMatched 3 s
/-- `LEN.4`. -/
def execLen4 (s : State) : Host.Outcome State Fault Refusal := codeMatched 4 s
/-- `LEN.5`. -/
def execLen5 (s : State) : Host.Outcome State Fault Refusal := codeMatched 5 s
/-- `LEN.6`. -/
def execLen6 (s : State) : Host.Outcome State Fault Refusal := codeMatched 6 s
/-- `LEN.7`. -/
def execLen7 (s : State) : Host.Outcome State Fault Refusal := codeMatched 7 s
/-- `LEN.8`. -/
def execLen8 (s : State) : Host.Outcome State Fault Refusal := codeMatched 8 s
/-- `LEN.9`. -/
def execLen9 (s : State) : Host.Outcome State Fault Refusal := codeMatched 9 s
/-- `LEN.10`. -/
def execLen10 (s : State) : Host.Outcome State Fault Refusal := codeMatched 10 s
/-- `LEN.11`. -/
def execLen11 (s : State) : Host.Outcome State Fault Refusal := codeMatched 11 s
/-- `LEN.12`. -/
def execLen12 (s : State) : Host.Outcome State Fault Refusal := codeMatched 12 s
/-- `LEN.13`. -/
def execLen13 (s : State) : Host.Outcome State Fault Refusal := codeMatched 13 s
/-- `LEN.14`. -/
def execLen14 (s : State) : Host.Outcome State Fault Refusal := codeMatched 14 s
/-- `LEN.15`. -/
def execLen15 (s : State) : Host.Outcome State Fault Refusal := codeMatched 15 s
/-- `DIST.0`. -/
def execDist0 (s : State) : Host.Outcome State Fault Refusal := codeMatched 0 s
/-- `DIST.1`. -/
def execDist1 (s : State) : Host.Outcome State Fault Refusal := codeMatched 1 s
/-- `DIST.2`. -/
def execDist2 (s : State) : Host.Outcome State Fault Refusal := codeMatched 2 s
/-- `DIST.3`. -/
def execDist3 (s : State) : Host.Outcome State Fault Refusal := codeMatched 3 s
/-- `DIST.4`. -/
def execDist4 (s : State) : Host.Outcome State Fault Refusal := codeMatched 4 s
/-- `DIST.5`. -/
def execDist5 (s : State) : Host.Outcome State Fault Refusal := codeMatched 5 s
/-- `DIST.6`. -/
def execDist6 (s : State) : Host.Outcome State Fault Refusal := codeMatched 6 s
/-- `DIST.7`. -/
def execDist7 (s : State) : Host.Outcome State Fault Refusal := codeMatched 7 s
/-- `DIST.8`. -/
def execDist8 (s : State) : Host.Outcome State Fault Refusal := codeMatched 8 s
/-- `DIST.9`. -/
def execDist9 (s : State) : Host.Outcome State Fault Refusal := codeMatched 9 s
/-- `DIST.10`. -/
def execDist10 (s : State) : Host.Outcome State Fault Refusal := codeMatched 10 s
/-- `DIST.11`. -/
def execDist11 (s : State) : Host.Outcome State Fault Refusal := codeMatched 11 s
/-- `DIST.12`. -/
def execDist12 (s : State) : Host.Outcome State Fault Refusal := codeMatched 12 s
/-- `DIST.13`. -/
def execDist13 (s : State) : Host.Outcome State Fault Refusal := codeMatched 13 s
/-- `DIST.14`. -/
def execDist14 (s : State) : Host.Outcome State Fault Refusal := codeMatched 14 s
/-- `DIST.15`. -/
def execDist15 (s : State) : Host.Outcome State Fault Refusal := codeMatched 15 s
/-- `DIST.16`. -/
def execDist16 (s : State) : Host.Outcome State Fault Refusal := codeMatched 16 s
/-- `DIST.17`. -/
def execDist17 (s : State) : Host.Outcome State Fault Refusal := codeMatched 17 s
/-- `DIST.18`. -/
def execDist18 (s : State) : Host.Outcome State Fault Refusal := codeMatched 18 s
/-- `DIST.19`. -/
def execDist19 (s : State) : Host.Outcome State Fault Refusal := codeMatched 19 s
/-- `DIST.20`. -/
def execDist20 (s : State) : Host.Outcome State Fault Refusal := codeMatched 20 s
/-- `DIST.21`. -/
def execDist21 (s : State) : Host.Outcome State Fault Refusal := codeMatched 21 s
/-- `DIST.22`. -/
def execDist22 (s : State) : Host.Outcome State Fault Refusal := codeMatched 22 s
/-- `DIST.23`. -/
def execDist23 (s : State) : Host.Outcome State Fault Refusal := codeMatched 23 s
/-- `DIST.24`. -/
def execDist24 (s : State) : Host.Outcome State Fault Refusal := codeMatched 24 s
/-- `DIST.25`. -/
def execDist25 (s : State) : Host.Outcome State Fault Refusal := codeMatched 25 s
/-- `DIST.26`. -/
def execDist26 (s : State) : Host.Outcome State Fault Refusal := codeMatched 26 s
/-- `DIST.27`. -/
def execDist27 (s : State) : Host.Outcome State Fault Refusal := codeMatched 27 s
/-- `DIST.28`. -/
def execDist28 (s : State) : Host.Outcome State Fault Refusal := codeMatched 28 s
/-- `DIST.29`. -/
def execDist29 (s : State) : Host.Outcome State Fault Refusal := codeMatched 29 s
/-- `DIST.30`. -/
def execDist30 (s : State) : Host.Outcome State Fault Refusal := codeMatched 30 s
/-- `DIST.31`. -/
def execDist31 (s : State) : Host.Outcome State Fault Refusal := codeMatched 31 s
/-- `DIST.32`. -/
def execDist32 (s : State) : Host.Outcome State Fault Refusal := codeMatched 32 s
/-- `DIST.33`. -/
def execDist33 (s : State) : Host.Outcome State Fault Refusal := codeMatched 33 s
/-- `DIST.34`. -/
def execDist34 (s : State) : Host.Outcome State Fault Refusal := codeMatched 34 s
/-- `DIST.35`. -/
def execDist35 (s : State) : Host.Outcome State Fault Refusal := codeMatched 35 s
/-- `DIST.36`. -/
def execDist36 (s : State) : Host.Outcome State Fault Refusal := codeMatched 36 s
/-- `DIST.37`. -/
def execDist37 (s : State) : Host.Outcome State Fault Refusal := codeMatched 37 s
/-- `DIST.38`. -/
def execDist38 (s : State) : Host.Outcome State Fault Refusal := codeMatched 38 s
/-- `DIST.39`. -/
def execDist39 (s : State) : Host.Outcome State Fault Refusal := codeMatched 39 s
/-- `DIST.40`. -/
def execDist40 (s : State) : Host.Outcome State Fault Refusal := codeMatched 40 s
/-- `DIST.41`. -/
def execDist41 (s : State) : Host.Outcome State Fault Refusal := codeMatched 41 s
/-- `DIST.42`. -/
def execDist42 (s : State) : Host.Outcome State Fault Refusal := codeMatched 42 s
/-- `DIST.43`. -/
def execDist43 (s : State) : Host.Outcome State Fault Refusal := codeMatched 43 s
/-- `DIST.44`. -/
def execDist44 (s : State) : Host.Outcome State Fault Refusal := codeMatched 44 s
/-- `DIST.45`. -/
def execDist45 (s : State) : Host.Outcome State Fault Refusal := codeMatched 45 s
/-- `DIST.46`. -/
def execDist46 (s : State) : Host.Outcome State Fault Refusal := codeMatched 46 s
/-- `DIST.47`. -/
def execDist47 (s : State) : Host.Outcome State Fault Refusal := codeMatched 47 s
/-- `DIST.48`. -/
def execDist48 (s : State) : Host.Outcome State Fault Refusal := codeMatched 48 s
/-- `DIST.49`. -/
def execDist49 (s : State) : Host.Outcome State Fault Refusal := codeMatched 49 s
/-- `DIST.50`. -/
def execDist50 (s : State) : Host.Outcome State Fault Refusal := codeMatched 50 s
/-- `DIST.51`. -/
def execDist51 (s : State) : Host.Outcome State Fault Refusal := codeMatched 51 s
/-- `DIST.52`. -/
def execDist52 (s : State) : Host.Outcome State Fault Refusal := codeMatched 52 s
/-- `DIST.53`. -/
def execDist53 (s : State) : Host.Outcome State Fault Refusal := codeMatched 53 s
/-- `DIST.54`. -/
def execDist54 (s : State) : Host.Outcome State Fault Refusal := codeMatched 54 s
/-- `DIST.55`. -/
def execDist55 (s : State) : Host.Outcome State Fault Refusal := codeMatched 55 s
/-- `DIST.56`. -/
def execDist56 (s : State) : Host.Outcome State Fault Refusal := codeMatched 56 s
/-- `DIST.57`. -/
def execDist57 (s : State) : Host.Outcome State Fault Refusal := codeMatched 57 s
/-- `DIST.58`. -/
def execDist58 (s : State) : Host.Outcome State Fault Refusal := codeMatched 58 s
/-- `DIST.59`. -/
def execDist59 (s : State) : Host.Outcome State Fault Refusal := codeMatched 59 s
/-- `DIST.60`. -/
def execDist60 (s : State) : Host.Outcome State Fault Refusal := codeMatched 60 s
/-- `DIST.61`. -/
def execDist61 (s : State) : Host.Outcome State Fault Refusal := codeMatched 61 s
/-- `DIST.62`. -/
def execDist62 (s : State) : Host.Outcome State Fault Refusal := codeMatched 62 s
/-- `DIST.63`. -/
def execDist63 (s : State) : Host.Outcome State Fault Refusal := codeMatched 63 s
/-- `LIT.0`. -/
def execLit0 (s : State) : Host.Outcome State Fault Refusal := codeMatched 0 s
/-- `LIT.1`. -/
def execLit1 (s : State) : Host.Outcome State Fault Refusal := codeMatched 1 s
/-- `LIT.2`. -/
def execLit2 (s : State) : Host.Outcome State Fault Refusal := codeMatched 2 s
/-- `LIT.3`. -/
def execLit3 (s : State) : Host.Outcome State Fault Refusal := codeMatched 3 s
/-- `LIT.4`. -/
def execLit4 (s : State) : Host.Outcome State Fault Refusal := codeMatched 4 s
/-- `LIT.5`. -/
def execLit5 (s : State) : Host.Outcome State Fault Refusal := codeMatched 5 s
/-- `LIT.6`. -/
def execLit6 (s : State) : Host.Outcome State Fault Refusal := codeMatched 6 s
/-- `LIT.7`. -/
def execLit7 (s : State) : Host.Outcome State Fault Refusal := codeMatched 7 s
/-- `LIT.8`. -/
def execLit8 (s : State) : Host.Outcome State Fault Refusal := codeMatched 8 s
/-- `LIT.9`. -/
def execLit9 (s : State) : Host.Outcome State Fault Refusal := codeMatched 9 s
/-- `LIT.10`. -/
def execLit10 (s : State) : Host.Outcome State Fault Refusal := codeMatched 10 s
/-- `LIT.11`. -/
def execLit11 (s : State) : Host.Outcome State Fault Refusal := codeMatched 11 s
/-- `LIT.12`. -/
def execLit12 (s : State) : Host.Outcome State Fault Refusal := codeMatched 12 s
/-- `LIT.13`. -/
def execLit13 (s : State) : Host.Outcome State Fault Refusal := codeMatched 13 s
/-- `LIT.14`. -/
def execLit14 (s : State) : Host.Outcome State Fault Refusal := codeMatched 14 s
/-- `LIT.15`. -/
def execLit15 (s : State) : Host.Outcome State Fault Refusal := codeMatched 15 s
/-- `LIT.16`. -/
def execLit16 (s : State) : Host.Outcome State Fault Refusal := codeMatched 16 s
/-- `LIT.17`. -/
def execLit17 (s : State) : Host.Outcome State Fault Refusal := codeMatched 17 s
/-- `LIT.18`. -/
def execLit18 (s : State) : Host.Outcome State Fault Refusal := codeMatched 18 s
/-- `LIT.19`. -/
def execLit19 (s : State) : Host.Outcome State Fault Refusal := codeMatched 19 s
/-- `LIT.20`. -/
def execLit20 (s : State) : Host.Outcome State Fault Refusal := codeMatched 20 s
/-- `LIT.21`. -/
def execLit21 (s : State) : Host.Outcome State Fault Refusal := codeMatched 21 s
/-- `LIT.22`. -/
def execLit22 (s : State) : Host.Outcome State Fault Refusal := codeMatched 22 s
/-- `LIT.23`. -/
def execLit23 (s : State) : Host.Outcome State Fault Refusal := codeMatched 23 s
/-- `LIT.24`. -/
def execLit24 (s : State) : Host.Outcome State Fault Refusal := codeMatched 24 s
/-- `LIT.25`. -/
def execLit25 (s : State) : Host.Outcome State Fault Refusal := codeMatched 25 s
/-- `LIT.26`. -/
def execLit26 (s : State) : Host.Outcome State Fault Refusal := codeMatched 26 s
/-- `LIT.27`. -/
def execLit27 (s : State) : Host.Outcome State Fault Refusal := codeMatched 27 s
/-- `LIT.28`. -/
def execLit28 (s : State) : Host.Outcome State Fault Refusal := codeMatched 28 s
/-- `LIT.29`. -/
def execLit29 (s : State) : Host.Outcome State Fault Refusal := codeMatched 29 s
/-- `LIT.30`. -/
def execLit30 (s : State) : Host.Outcome State Fault Refusal := codeMatched 30 s
/-- `LIT.31`. -/
def execLit31 (s : State) : Host.Outcome State Fault Refusal := codeMatched 31 s
/-- `LIT.32`. -/
def execLit32 (s : State) : Host.Outcome State Fault Refusal := codeMatched 32 s
/-- `LIT.33`. -/
def execLit33 (s : State) : Host.Outcome State Fault Refusal := codeMatched 33 s
/-- `LIT.34`. -/
def execLit34 (s : State) : Host.Outcome State Fault Refusal := codeMatched 34 s
/-- `LIT.35`. -/
def execLit35 (s : State) : Host.Outcome State Fault Refusal := codeMatched 35 s
/-- `LIT.36`. -/
def execLit36 (s : State) : Host.Outcome State Fault Refusal := codeMatched 36 s
/-- `LIT.37`. -/
def execLit37 (s : State) : Host.Outcome State Fault Refusal := codeMatched 37 s
/-- `LIT.38`. -/
def execLit38 (s : State) : Host.Outcome State Fault Refusal := codeMatched 38 s
/-- `LIT.39`. -/
def execLit39 (s : State) : Host.Outcome State Fault Refusal := codeMatched 39 s
/-- `LIT.40`. -/
def execLit40 (s : State) : Host.Outcome State Fault Refusal := codeMatched 40 s
/-- `LIT.41`. -/
def execLit41 (s : State) : Host.Outcome State Fault Refusal := codeMatched 41 s
/-- `LIT.42`. -/
def execLit42 (s : State) : Host.Outcome State Fault Refusal := codeMatched 42 s
/-- `LIT.43`. -/
def execLit43 (s : State) : Host.Outcome State Fault Refusal := codeMatched 43 s
/-- `LIT.44`. -/
def execLit44 (s : State) : Host.Outcome State Fault Refusal := codeMatched 44 s
/-- `LIT.45`. -/
def execLit45 (s : State) : Host.Outcome State Fault Refusal := codeMatched 45 s
/-- `LIT.46`. -/
def execLit46 (s : State) : Host.Outcome State Fault Refusal := codeMatched 46 s
/-- `LIT.47`. -/
def execLit47 (s : State) : Host.Outcome State Fault Refusal := codeMatched 47 s
/-- `LIT.48`. -/
def execLit48 (s : State) : Host.Outcome State Fault Refusal := codeMatched 48 s
/-- `LIT.49`. -/
def execLit49 (s : State) : Host.Outcome State Fault Refusal := codeMatched 49 s
/-- `LIT.50`. -/
def execLit50 (s : State) : Host.Outcome State Fault Refusal := codeMatched 50 s
/-- `LIT.51`. -/
def execLit51 (s : State) : Host.Outcome State Fault Refusal := codeMatched 51 s
/-- `LIT.52`. -/
def execLit52 (s : State) : Host.Outcome State Fault Refusal := codeMatched 52 s
/-- `LIT.53`. -/
def execLit53 (s : State) : Host.Outcome State Fault Refusal := codeMatched 53 s
/-- `LIT.54`. -/
def execLit54 (s : State) : Host.Outcome State Fault Refusal := codeMatched 54 s
/-- `LIT.55`. -/
def execLit55 (s : State) : Host.Outcome State Fault Refusal := codeMatched 55 s
/-- `LIT.56`. -/
def execLit56 (s : State) : Host.Outcome State Fault Refusal := codeMatched 56 s
/-- `LIT.57`. -/
def execLit57 (s : State) : Host.Outcome State Fault Refusal := codeMatched 57 s
/-- `LIT.58`. -/
def execLit58 (s : State) : Host.Outcome State Fault Refusal := codeMatched 58 s
/-- `LIT.59`. -/
def execLit59 (s : State) : Host.Outcome State Fault Refusal := codeMatched 59 s
/-- `LIT.60`. -/
def execLit60 (s : State) : Host.Outcome State Fault Refusal := codeMatched 60 s
/-- `LIT.61`. -/
def execLit61 (s : State) : Host.Outcome State Fault Refusal := codeMatched 61 s
/-- `LIT.62`. -/
def execLit62 (s : State) : Host.Outcome State Fault Refusal := codeMatched 62 s
/-- `LIT.63`. -/
def execLit63 (s : State) : Host.Outcome State Fault Refusal := codeMatched 63 s
/-- `LIT.64`. -/
def execLit64 (s : State) : Host.Outcome State Fault Refusal := codeMatched 64 s
/-- `LIT.65`. -/
def execLit65 (s : State) : Host.Outcome State Fault Refusal := codeMatched 65 s
/-- `LIT.66`. -/
def execLit66 (s : State) : Host.Outcome State Fault Refusal := codeMatched 66 s
/-- `LIT.67`. -/
def execLit67 (s : State) : Host.Outcome State Fault Refusal := codeMatched 67 s
/-- `LIT.68`. -/
def execLit68 (s : State) : Host.Outcome State Fault Refusal := codeMatched 68 s
/-- `LIT.69`. -/
def execLit69 (s : State) : Host.Outcome State Fault Refusal := codeMatched 69 s
/-- `LIT.70`. -/
def execLit70 (s : State) : Host.Outcome State Fault Refusal := codeMatched 70 s
/-- `LIT.71`. -/
def execLit71 (s : State) : Host.Outcome State Fault Refusal := codeMatched 71 s
/-- `LIT.72`. -/
def execLit72 (s : State) : Host.Outcome State Fault Refusal := codeMatched 72 s
/-- `LIT.73`. -/
def execLit73 (s : State) : Host.Outcome State Fault Refusal := codeMatched 73 s
/-- `LIT.74`. -/
def execLit74 (s : State) : Host.Outcome State Fault Refusal := codeMatched 74 s
/-- `LIT.75`. -/
def execLit75 (s : State) : Host.Outcome State Fault Refusal := codeMatched 75 s
/-- `LIT.76`. -/
def execLit76 (s : State) : Host.Outcome State Fault Refusal := codeMatched 76 s
/-- `LIT.77`. -/
def execLit77 (s : State) : Host.Outcome State Fault Refusal := codeMatched 77 s
/-- `LIT.78`. -/
def execLit78 (s : State) : Host.Outcome State Fault Refusal := codeMatched 78 s
/-- `LIT.79`. -/
def execLit79 (s : State) : Host.Outcome State Fault Refusal := codeMatched 79 s
/-- `LIT.80`. -/
def execLit80 (s : State) : Host.Outcome State Fault Refusal := codeMatched 80 s
/-- `LIT.81`. -/
def execLit81 (s : State) : Host.Outcome State Fault Refusal := codeMatched 81 s
/-- `LIT.82`. -/
def execLit82 (s : State) : Host.Outcome State Fault Refusal := codeMatched 82 s
/-- `LIT.83`. -/
def execLit83 (s : State) : Host.Outcome State Fault Refusal := codeMatched 83 s
/-- `LIT.84`. -/
def execLit84 (s : State) : Host.Outcome State Fault Refusal := codeMatched 84 s
/-- `LIT.85`. -/
def execLit85 (s : State) : Host.Outcome State Fault Refusal := codeMatched 85 s
/-- `LIT.86`. -/
def execLit86 (s : State) : Host.Outcome State Fault Refusal := codeMatched 86 s
/-- `LIT.87`. -/
def execLit87 (s : State) : Host.Outcome State Fault Refusal := codeMatched 87 s
/-- `LIT.88`. -/
def execLit88 (s : State) : Host.Outcome State Fault Refusal := codeMatched 88 s
/-- `LIT.89`. -/
def execLit89 (s : State) : Host.Outcome State Fault Refusal := codeMatched 89 s
/-- `LIT.90`. -/
def execLit90 (s : State) : Host.Outcome State Fault Refusal := codeMatched 90 s
/-- `LIT.91`. -/
def execLit91 (s : State) : Host.Outcome State Fault Refusal := codeMatched 91 s
/-- `LIT.92`. -/
def execLit92 (s : State) : Host.Outcome State Fault Refusal := codeMatched 92 s
/-- `LIT.93`. -/
def execLit93 (s : State) : Host.Outcome State Fault Refusal := codeMatched 93 s
/-- `LIT.94`. -/
def execLit94 (s : State) : Host.Outcome State Fault Refusal := codeMatched 94 s
/-- `LIT.95`. -/
def execLit95 (s : State) : Host.Outcome State Fault Refusal := codeMatched 95 s
/-- `LIT.96`. -/
def execLit96 (s : State) : Host.Outcome State Fault Refusal := codeMatched 96 s
/-- `LIT.97`. -/
def execLit97 (s : State) : Host.Outcome State Fault Refusal := codeMatched 97 s
/-- `LIT.98`. -/
def execLit98 (s : State) : Host.Outcome State Fault Refusal := codeMatched 98 s
/-- `LIT.99`. -/
def execLit99 (s : State) : Host.Outcome State Fault Refusal := codeMatched 99 s
/-- `LIT.100`. -/
def execLit100 (s : State) : Host.Outcome State Fault Refusal := codeMatched 100 s
/-- `LIT.101`. -/
def execLit101 (s : State) : Host.Outcome State Fault Refusal := codeMatched 101 s
/-- `LIT.102`. -/
def execLit102 (s : State) : Host.Outcome State Fault Refusal := codeMatched 102 s
/-- `LIT.103`. -/
def execLit103 (s : State) : Host.Outcome State Fault Refusal := codeMatched 103 s
/-- `LIT.104`. -/
def execLit104 (s : State) : Host.Outcome State Fault Refusal := codeMatched 104 s
/-- `LIT.105`. -/
def execLit105 (s : State) : Host.Outcome State Fault Refusal := codeMatched 105 s
/-- `LIT.106`. -/
def execLit106 (s : State) : Host.Outcome State Fault Refusal := codeMatched 106 s
/-- `LIT.107`. -/
def execLit107 (s : State) : Host.Outcome State Fault Refusal := codeMatched 107 s
/-- `LIT.108`. -/
def execLit108 (s : State) : Host.Outcome State Fault Refusal := codeMatched 108 s
/-- `LIT.109`. -/
def execLit109 (s : State) : Host.Outcome State Fault Refusal := codeMatched 109 s
/-- `LIT.110`. -/
def execLit110 (s : State) : Host.Outcome State Fault Refusal := codeMatched 110 s
/-- `LIT.111`. -/
def execLit111 (s : State) : Host.Outcome State Fault Refusal := codeMatched 111 s
/-- `LIT.112`. -/
def execLit112 (s : State) : Host.Outcome State Fault Refusal := codeMatched 112 s
/-- `LIT.113`. -/
def execLit113 (s : State) : Host.Outcome State Fault Refusal := codeMatched 113 s
/-- `LIT.114`. -/
def execLit114 (s : State) : Host.Outcome State Fault Refusal := codeMatched 114 s
/-- `LIT.115`. -/
def execLit115 (s : State) : Host.Outcome State Fault Refusal := codeMatched 115 s
/-- `LIT.116`. -/
def execLit116 (s : State) : Host.Outcome State Fault Refusal := codeMatched 116 s
/-- `LIT.117`. -/
def execLit117 (s : State) : Host.Outcome State Fault Refusal := codeMatched 117 s
/-- `LIT.118`. -/
def execLit118 (s : State) : Host.Outcome State Fault Refusal := codeMatched 118 s
/-- `LIT.119`. -/
def execLit119 (s : State) : Host.Outcome State Fault Refusal := codeMatched 119 s
/-- `LIT.120`. -/
def execLit120 (s : State) : Host.Outcome State Fault Refusal := codeMatched 120 s
/-- `LIT.121`. -/
def execLit121 (s : State) : Host.Outcome State Fault Refusal := codeMatched 121 s
/-- `LIT.122`. -/
def execLit122 (s : State) : Host.Outcome State Fault Refusal := codeMatched 122 s
/-- `LIT.123`. -/
def execLit123 (s : State) : Host.Outcome State Fault Refusal := codeMatched 123 s
/-- `LIT.124`. -/
def execLit124 (s : State) : Host.Outcome State Fault Refusal := codeMatched 124 s
/-- `LIT.125`. -/
def execLit125 (s : State) : Host.Outcome State Fault Refusal := codeMatched 125 s
/-- `LIT.126`. -/
def execLit126 (s : State) : Host.Outcome State Fault Refusal := codeMatched 126 s
/-- `LIT.127`. -/
def execLit127 (s : State) : Host.Outcome State Fault Refusal := codeMatched 127 s
/-- `LIT.128`. -/
def execLit128 (s : State) : Host.Outcome State Fault Refusal := codeMatched 128 s
/-- `LIT.129`. -/
def execLit129 (s : State) : Host.Outcome State Fault Refusal := codeMatched 129 s
/-- `LIT.130`. -/
def execLit130 (s : State) : Host.Outcome State Fault Refusal := codeMatched 130 s
/-- `LIT.131`. -/
def execLit131 (s : State) : Host.Outcome State Fault Refusal := codeMatched 131 s
/-- `LIT.132`. -/
def execLit132 (s : State) : Host.Outcome State Fault Refusal := codeMatched 132 s
/-- `LIT.133`. -/
def execLit133 (s : State) : Host.Outcome State Fault Refusal := codeMatched 133 s
/-- `LIT.134`. -/
def execLit134 (s : State) : Host.Outcome State Fault Refusal := codeMatched 134 s
/-- `LIT.135`. -/
def execLit135 (s : State) : Host.Outcome State Fault Refusal := codeMatched 135 s
/-- `LIT.136`. -/
def execLit136 (s : State) : Host.Outcome State Fault Refusal := codeMatched 136 s
/-- `LIT.137`. -/
def execLit137 (s : State) : Host.Outcome State Fault Refusal := codeMatched 137 s
/-- `LIT.138`. -/
def execLit138 (s : State) : Host.Outcome State Fault Refusal := codeMatched 138 s
/-- `LIT.139`. -/
def execLit139 (s : State) : Host.Outcome State Fault Refusal := codeMatched 139 s
/-- `LIT.140`. -/
def execLit140 (s : State) : Host.Outcome State Fault Refusal := codeMatched 140 s
/-- `LIT.141`. -/
def execLit141 (s : State) : Host.Outcome State Fault Refusal := codeMatched 141 s
/-- `LIT.142`. -/
def execLit142 (s : State) : Host.Outcome State Fault Refusal := codeMatched 142 s
/-- `LIT.143`. -/
def execLit143 (s : State) : Host.Outcome State Fault Refusal := codeMatched 143 s
/-- `LIT.144`. -/
def execLit144 (s : State) : Host.Outcome State Fault Refusal := codeMatched 144 s
/-- `LIT.145`. -/
def execLit145 (s : State) : Host.Outcome State Fault Refusal := codeMatched 145 s
/-- `LIT.146`. -/
def execLit146 (s : State) : Host.Outcome State Fault Refusal := codeMatched 146 s
/-- `LIT.147`. -/
def execLit147 (s : State) : Host.Outcome State Fault Refusal := codeMatched 147 s
/-- `LIT.148`. -/
def execLit148 (s : State) : Host.Outcome State Fault Refusal := codeMatched 148 s
/-- `LIT.149`. -/
def execLit149 (s : State) : Host.Outcome State Fault Refusal := codeMatched 149 s
/-- `LIT.150`. -/
def execLit150 (s : State) : Host.Outcome State Fault Refusal := codeMatched 150 s
/-- `LIT.151`. -/
def execLit151 (s : State) : Host.Outcome State Fault Refusal := codeMatched 151 s
/-- `LIT.152`. -/
def execLit152 (s : State) : Host.Outcome State Fault Refusal := codeMatched 152 s
/-- `LIT.153`. -/
def execLit153 (s : State) : Host.Outcome State Fault Refusal := codeMatched 153 s
/-- `LIT.154`. -/
def execLit154 (s : State) : Host.Outcome State Fault Refusal := codeMatched 154 s
/-- `LIT.155`. -/
def execLit155 (s : State) : Host.Outcome State Fault Refusal := codeMatched 155 s
/-- `LIT.156`. -/
def execLit156 (s : State) : Host.Outcome State Fault Refusal := codeMatched 156 s
/-- `LIT.157`. -/
def execLit157 (s : State) : Host.Outcome State Fault Refusal := codeMatched 157 s
/-- `LIT.158`. -/
def execLit158 (s : State) : Host.Outcome State Fault Refusal := codeMatched 158 s
/-- `LIT.159`. -/
def execLit159 (s : State) : Host.Outcome State Fault Refusal := codeMatched 159 s
/-- `LIT.160`. -/
def execLit160 (s : State) : Host.Outcome State Fault Refusal := codeMatched 160 s
/-- `LIT.161`. -/
def execLit161 (s : State) : Host.Outcome State Fault Refusal := codeMatched 161 s
/-- `LIT.162`. -/
def execLit162 (s : State) : Host.Outcome State Fault Refusal := codeMatched 162 s
/-- `LIT.163`. -/
def execLit163 (s : State) : Host.Outcome State Fault Refusal := codeMatched 163 s
/-- `LIT.164`. -/
def execLit164 (s : State) : Host.Outcome State Fault Refusal := codeMatched 164 s
/-- `LIT.165`. -/
def execLit165 (s : State) : Host.Outcome State Fault Refusal := codeMatched 165 s
/-- `LIT.166`. -/
def execLit166 (s : State) : Host.Outcome State Fault Refusal := codeMatched 166 s
/-- `LIT.167`. -/
def execLit167 (s : State) : Host.Outcome State Fault Refusal := codeMatched 167 s
/-- `LIT.168`. -/
def execLit168 (s : State) : Host.Outcome State Fault Refusal := codeMatched 168 s
/-- `LIT.169`. -/
def execLit169 (s : State) : Host.Outcome State Fault Refusal := codeMatched 169 s
/-- `LIT.170`. -/
def execLit170 (s : State) : Host.Outcome State Fault Refusal := codeMatched 170 s
/-- `LIT.171`. -/
def execLit171 (s : State) : Host.Outcome State Fault Refusal := codeMatched 171 s
/-- `LIT.172`. -/
def execLit172 (s : State) : Host.Outcome State Fault Refusal := codeMatched 172 s
/-- `LIT.173`. -/
def execLit173 (s : State) : Host.Outcome State Fault Refusal := codeMatched 173 s
/-- `LIT.174`. -/
def execLit174 (s : State) : Host.Outcome State Fault Refusal := codeMatched 174 s
/-- `LIT.175`. -/
def execLit175 (s : State) : Host.Outcome State Fault Refusal := codeMatched 175 s
/-- `LIT.176`. -/
def execLit176 (s : State) : Host.Outcome State Fault Refusal := codeMatched 176 s
/-- `LIT.177`. -/
def execLit177 (s : State) : Host.Outcome State Fault Refusal := codeMatched 177 s
/-- `LIT.178`. -/
def execLit178 (s : State) : Host.Outcome State Fault Refusal := codeMatched 178 s
/-- `LIT.179`. -/
def execLit179 (s : State) : Host.Outcome State Fault Refusal := codeMatched 179 s
/-- `LIT.180`. -/
def execLit180 (s : State) : Host.Outcome State Fault Refusal := codeMatched 180 s
/-- `LIT.181`. -/
def execLit181 (s : State) : Host.Outcome State Fault Refusal := codeMatched 181 s
/-- `LIT.182`. -/
def execLit182 (s : State) : Host.Outcome State Fault Refusal := codeMatched 182 s
/-- `LIT.183`. -/
def execLit183 (s : State) : Host.Outcome State Fault Refusal := codeMatched 183 s
/-- `LIT.184`. -/
def execLit184 (s : State) : Host.Outcome State Fault Refusal := codeMatched 184 s
/-- `LIT.185`. -/
def execLit185 (s : State) : Host.Outcome State Fault Refusal := codeMatched 185 s
/-- `LIT.186`. -/
def execLit186 (s : State) : Host.Outcome State Fault Refusal := codeMatched 186 s
/-- `LIT.187`. -/
def execLit187 (s : State) : Host.Outcome State Fault Refusal := codeMatched 187 s
/-- `LIT.188`. -/
def execLit188 (s : State) : Host.Outcome State Fault Refusal := codeMatched 188 s
/-- `LIT.189`. -/
def execLit189 (s : State) : Host.Outcome State Fault Refusal := codeMatched 189 s
/-- `LIT.190`. -/
def execLit190 (s : State) : Host.Outcome State Fault Refusal := codeMatched 190 s
/-- `LIT.191`. -/
def execLit191 (s : State) : Host.Outcome State Fault Refusal := codeMatched 191 s
/-- `LIT.192`. -/
def execLit192 (s : State) : Host.Outcome State Fault Refusal := codeMatched 192 s
/-- `LIT.193`. -/
def execLit193 (s : State) : Host.Outcome State Fault Refusal := codeMatched 193 s
/-- `LIT.194`. -/
def execLit194 (s : State) : Host.Outcome State Fault Refusal := codeMatched 194 s
/-- `LIT.195`. -/
def execLit195 (s : State) : Host.Outcome State Fault Refusal := codeMatched 195 s
/-- `LIT.196`. -/
def execLit196 (s : State) : Host.Outcome State Fault Refusal := codeMatched 196 s
/-- `LIT.197`. -/
def execLit197 (s : State) : Host.Outcome State Fault Refusal := codeMatched 197 s
/-- `LIT.198`. -/
def execLit198 (s : State) : Host.Outcome State Fault Refusal := codeMatched 198 s
/-- `LIT.199`. -/
def execLit199 (s : State) : Host.Outcome State Fault Refusal := codeMatched 199 s
/-- `LIT.200`. -/
def execLit200 (s : State) : Host.Outcome State Fault Refusal := codeMatched 200 s
/-- `LIT.201`. -/
def execLit201 (s : State) : Host.Outcome State Fault Refusal := codeMatched 201 s
/-- `LIT.202`. -/
def execLit202 (s : State) : Host.Outcome State Fault Refusal := codeMatched 202 s
/-- `LIT.203`. -/
def execLit203 (s : State) : Host.Outcome State Fault Refusal := codeMatched 203 s
/-- `LIT.204`. -/
def execLit204 (s : State) : Host.Outcome State Fault Refusal := codeMatched 204 s
/-- `LIT.205`. -/
def execLit205 (s : State) : Host.Outcome State Fault Refusal := codeMatched 205 s
/-- `LIT.206`. -/
def execLit206 (s : State) : Host.Outcome State Fault Refusal := codeMatched 206 s
/-- `LIT.207`. -/
def execLit207 (s : State) : Host.Outcome State Fault Refusal := codeMatched 207 s
/-- `LIT.208`. -/
def execLit208 (s : State) : Host.Outcome State Fault Refusal := codeMatched 208 s
/-- `LIT.209`. -/
def execLit209 (s : State) : Host.Outcome State Fault Refusal := codeMatched 209 s
/-- `LIT.210`. -/
def execLit210 (s : State) : Host.Outcome State Fault Refusal := codeMatched 210 s
/-- `LIT.211`. -/
def execLit211 (s : State) : Host.Outcome State Fault Refusal := codeMatched 211 s
/-- `LIT.212`. -/
def execLit212 (s : State) : Host.Outcome State Fault Refusal := codeMatched 212 s
/-- `LIT.213`. -/
def execLit213 (s : State) : Host.Outcome State Fault Refusal := codeMatched 213 s
/-- `LIT.214`. -/
def execLit214 (s : State) : Host.Outcome State Fault Refusal := codeMatched 214 s
/-- `LIT.215`. -/
def execLit215 (s : State) : Host.Outcome State Fault Refusal := codeMatched 215 s
/-- `LIT.216`. -/
def execLit216 (s : State) : Host.Outcome State Fault Refusal := codeMatched 216 s
/-- `LIT.217`. -/
def execLit217 (s : State) : Host.Outcome State Fault Refusal := codeMatched 217 s
/-- `LIT.218`. -/
def execLit218 (s : State) : Host.Outcome State Fault Refusal := codeMatched 218 s
/-- `LIT.219`. -/
def execLit219 (s : State) : Host.Outcome State Fault Refusal := codeMatched 219 s
/-- `LIT.220`. -/
def execLit220 (s : State) : Host.Outcome State Fault Refusal := codeMatched 220 s
/-- `LIT.221`. -/
def execLit221 (s : State) : Host.Outcome State Fault Refusal := codeMatched 221 s
/-- `LIT.222`. -/
def execLit222 (s : State) : Host.Outcome State Fault Refusal := codeMatched 222 s
/-- `LIT.223`. -/
def execLit223 (s : State) : Host.Outcome State Fault Refusal := codeMatched 223 s
/-- `LIT.224`. -/
def execLit224 (s : State) : Host.Outcome State Fault Refusal := codeMatched 224 s
/-- `LIT.225`. -/
def execLit225 (s : State) : Host.Outcome State Fault Refusal := codeMatched 225 s
/-- `LIT.226`. -/
def execLit226 (s : State) : Host.Outcome State Fault Refusal := codeMatched 226 s
/-- `LIT.227`. -/
def execLit227 (s : State) : Host.Outcome State Fault Refusal := codeMatched 227 s
/-- `LIT.228`. -/
def execLit228 (s : State) : Host.Outcome State Fault Refusal := codeMatched 228 s
/-- `LIT.229`. -/
def execLit229 (s : State) : Host.Outcome State Fault Refusal := codeMatched 229 s
/-- `LIT.230`. -/
def execLit230 (s : State) : Host.Outcome State Fault Refusal := codeMatched 230 s
/-- `LIT.231`. -/
def execLit231 (s : State) : Host.Outcome State Fault Refusal := codeMatched 231 s
/-- `LIT.232`. -/
def execLit232 (s : State) : Host.Outcome State Fault Refusal := codeMatched 232 s
/-- `LIT.233`. -/
def execLit233 (s : State) : Host.Outcome State Fault Refusal := codeMatched 233 s
/-- `LIT.234`. -/
def execLit234 (s : State) : Host.Outcome State Fault Refusal := codeMatched 234 s
/-- `LIT.235`. -/
def execLit235 (s : State) : Host.Outcome State Fault Refusal := codeMatched 235 s
/-- `LIT.236`. -/
def execLit236 (s : State) : Host.Outcome State Fault Refusal := codeMatched 236 s
/-- `LIT.237`. -/
def execLit237 (s : State) : Host.Outcome State Fault Refusal := codeMatched 237 s
/-- `LIT.238`. -/
def execLit238 (s : State) : Host.Outcome State Fault Refusal := codeMatched 238 s
/-- `LIT.239`. -/
def execLit239 (s : State) : Host.Outcome State Fault Refusal := codeMatched 239 s
/-- `LIT.240`. -/
def execLit240 (s : State) : Host.Outcome State Fault Refusal := codeMatched 240 s
/-- `LIT.241`. -/
def execLit241 (s : State) : Host.Outcome State Fault Refusal := codeMatched 241 s
/-- `LIT.242`. -/
def execLit242 (s : State) : Host.Outcome State Fault Refusal := codeMatched 242 s
/-- `LIT.243`. -/
def execLit243 (s : State) : Host.Outcome State Fault Refusal := codeMatched 243 s
/-- `LIT.244`. -/
def execLit244 (s : State) : Host.Outcome State Fault Refusal := codeMatched 244 s
/-- `LIT.245`. -/
def execLit245 (s : State) : Host.Outcome State Fault Refusal := codeMatched 245 s
/-- `LIT.246`. -/
def execLit246 (s : State) : Host.Outcome State Fault Refusal := codeMatched 246 s
/-- `LIT.247`. -/
def execLit247 (s : State) : Host.Outcome State Fault Refusal := codeMatched 247 s
/-- `LIT.248`. -/
def execLit248 (s : State) : Host.Outcome State Fault Refusal := codeMatched 248 s
/-- `LIT.249`. -/
def execLit249 (s : State) : Host.Outcome State Fault Refusal := codeMatched 249 s
/-- `LIT.250`. -/
def execLit250 (s : State) : Host.Outcome State Fault Refusal := codeMatched 250 s
/-- `LIT.251`. -/
def execLit251 (s : State) : Host.Outcome State Fault Refusal := codeMatched 251 s
/-- `LIT.252`. -/
def execLit252 (s : State) : Host.Outcome State Fault Refusal := codeMatched 252 s
/-- `LIT.253`. -/
def execLit253 (s : State) : Host.Outcome State Fault Refusal := codeMatched 253 s
/-- `LIT.254`. -/
def execLit254 (s : State) : Host.Outcome State Fault Refusal := codeMatched 254 s
/-- `LIT.255`. -/
def execLit255 (s : State) : Host.Outcome State Fault Refusal := codeMatched 255 s

end Sys2Proof.Machine
end

