-- ==== Sys2Proof/Machine/Operands.lean ====
section
/-! DEFINITION. The operands of the tokens as the core reads them from the stream (R216, R219). -/

namespace Sys2Proof.Machine

/-- One header field: `takeBits(8)` (R91, R212). -/
def readByteField (s : State) : Res Byte :=
  (takeBits 8 s).bind fun v s => .ok (BitVec.ofNat 8 v) s

/-- The length of a back-reference (R216): `mlen <- LEN_BASE[s] + takeBits(LEN_EXTRA[s])`. -/
def readLength (s : State) : Res Nat :=
  (decodeSym .len s).bind fun k s =>
  (takeBits (lenExtra k) s).bind fun e s =>
    .ok (lenOf k e) { s with mlen := BitVec.ofNat 10 (lenOf k e) }

/-- The distance of a back-reference with `x` extra bits (R219):
`mdist <- ((S << x) | takeBits(x)) + 1`, the distance code first. -/
def readDistance (x : Nat) (s : State) : Res (BitVec 13) :=
  (decodeSym .dist s).bind fun sd s =>
  (takeBits x s).bind fun extra s =>
    .ok (BitVec.ofNat 13 (distOf sd x extra)) { s with mdist := BitVec.ofNat 13 (distOf sd x extra) }

end Sys2Proof.Machine
end

