-- ==== Sys2Proof/Machine/Tokens.lean ====
section
/-! DEFINITION. `implode_decompressor`: the tokens of the stream once their operands are read
(44_stream_decoder.md; log 11), and `start`. -/

namespace Sys2Proof.Machine

/-- The flag byte of the header: `lit <- b; if lit > 1: raise FormatError` (R212). -/
def headerLit (b : Byte) (s : State) : Res Unit :=
  let s := { s with lit := b }
  if legalLit b then .ok () s else .raised .formatError s

/-- The selector byte of the header: `dict <- b; if dict < 4 or dict > 6: raise FormatError`
(R212). -/
def headerDict (b : Byte) (s : State) : Res Unit :=
  let s := { s with dict := b }
  if legalDict b then .ok () s else .raised .formatError s

/-- A back-reference (R217, R218): the distance check (R220), then the copy; `mlen` and `mdist` are
dead afterwards (R32). -/
def backReference (len : BitVec 10) (dist : BitVec 13) (s : State) : Res Unit :=
  let s := { s with mlen := len, mdist := dist }
  if s.distanceTooFar then .raised .distanceTooFar s else
  (copy len dist s).bind fun _ s => .ok () s.forgetMatch

/-- `HDR lit, dict` (R212). -/
def execHdr (lit dict : Byte) (s : State) : Host.Outcome State Fault Refusal :=
  ((headerLit lit s).bind fun _ s =>
   (headerDict dict s).bind fun _ s => .ok () { s with state := .decodeLoop }).toOutcome

/-- `LIT.RAW b` (R214). -/
def execLitRaw (b : Byte) (s : State) : Host.Outcome State Fault Refusal := (putByte b s).toOutcome

/-- `LIT.HUF b` (R215). -/
def execLitHuf (b : Byte) (s : State) : Host.Outcome State Fault Refusal := (putByte b s).toOutcome

/-- `MATCH2 dist`: length 2 (R218). -/
def execMatch2 (dist : BitVec 13) (s : State) : Host.Outcome State Fault Refusal :=
  (backReference 2 dist s).toOutcome

/-- `MATCH len, dist` (R217). -/
def execMatchN (len : BitVec 10) (dist : BitVec 13) (s : State) : Host.Outcome State Fault Refusal :=
  (backReference len dist s).toOutcome

/-- `END` (R223, R225): the final flush; only when it has not failed, `Success` and `Done`. -/
def execEndMark (s : State) : Host.Outcome State Fault Refusal :=
  ((flush s).bind fun _ s => .ok () s.finish).toOutcome

/-- `START` (R211): refused while a session runs (D13) and before the tables are built (R293). -/
def execStart (s : State) : Host.Outcome State Fault Refusal :=
  if s.running then .refused .startWhileRunning else
  if s.tablesBuilt then .next s.newSession else .refused .startBeforeTables

/-- `_README`: the table's comment row (R116). -/
def execReadme (_ : State) : Host.Outcome State Fault Refusal := .refused .notAnInstruction

end Sys2Proof.Machine
end

