-- ==== Sys2Proof/Machine/Window.lean ====
section
/-! DEFINITION. The operations of `sliding_window_circular_buffer` as instructions of their own
(43_sliding_window.md). -/

namespace Sys2Proof.Machine

/-- `PUTBYTE b` (R193). -/
def execPutByte (b : Byte) (s : State) : Host.Outcome State Fault Refusal := (putByte b s).toOutcome

/-- `COPY len, dist` (R195). -/
def execCopy (len : BitVec 10) (dist : BitVec 13) (s : State) : Host.Outcome State Fault Refusal :=
  (copy len dist s).toOutcome

/-- `FLUSH` (R196). -/
def execFlush (s : State) : Host.Outcome State Fault Refusal := (flush s).toOutcome

/-- `WRAP` (R197). -/
def execWrap (s : State) : Host.Outcome State Fault Refusal := (wrap s).toOutcome

end Sys2Proof.Machine
end

