-- ==== Sys2Proof/Machine/Fetch.lean ====
section
/-! DEFINITION. Fetching the next instruction from the stream: every bit goes through `takeBits`
(R139), in the order of R230, so that each pull is made only for a bit that is needed (R132, R299).
Also where a word is placed for the next step to fetch. -/

namespace Sys2Proof.Machine

/-- The header (R212): each field is checked as it is read, the flag before the selector byte is read
(D6). -/
def fetchHeader (s : State) : Res Instr :=
  (readByteField s).bind fun lit s =>
  (headerLit lit s).bind fun _ s =>
  (readByteField s).bind fun dict s =>
  (headerDict dict s).bind fun _ s => .ok (.hdr lit dict) s

/-- A literal after its control bit: raw or coded as `lit` says (R214, R215). -/
def fetchLiteral (s : State) : Res Instr :=
  if s.codedLiterals then
    (decodeSym .lit s).bind fun k s => .ok (.litHuf (BitVec.ofNat 8 k)) s
  else
    (readByteField s).bind fun b s => .ok (.litRaw b) s

/-- A back-reference or the end marker after its control bit (R216 to R219, R223): the length, and
unless it is 519 the distance. -/
def fetchPair (s : State) : Res Instr :=
  (readLength s).bind fun len s =>
    if len = hw.endLen then .ok .endMark s else
    (readDistance (extraCount len s.dict) s).bind fun dist s =>
      if len = 2 then .ok (.match2 dist) s else .ok (.matchN (BitVec.ofNat 10 len) dist) s

/-- One token (R213): the control bit, then what it selects. -/
def fetchToken (s : State) : Res Instr :=
  (takeBits 1 s).bind fun c s => if c = 0 then fetchLiteral s else fetchPair s

/-- One code of an alphabet (R172): the code row of the symbol read. -/
def fetchCode (a : Alphabet) (s : State) : Res Instr :=
  (decodeSym a s).bind fun k s =>
    match (codeInstrs a)[k]? with
    | some i => .ok i s
    | none => .raised .invalidCode s

/-- The context the running session reads the stream in (R213, R230). -/
def State.ctx (s : State) : Ctx :=
  match s.state with
  | .decodeLoop => .token s.lit s.dict
  | _ => .header

/-- Fetch in a context. -/
def fetch (ctx : Ctx) (s : State) : Res Instr :=
  match ctx with
  | .header => fetchHeader s
  | .token _ _ => fetchToken s
  | .code a => fetchCode a s

/-- The internal operations: the rows without a stream encoding (R116), which an interface of a block
can be asked for (log 10). -/
def isOperation : Instr → Bool
  | .start | .takeBits _ | .fetchByte | .construct _ _ _ | .decode _ | .putByte _ | .copy _ _
  | .flush | .wrap => true
  | _ => false

/-- Place a table word where the next step fetches, in the context `tableContext` gives it: its bytes
are the next chunk of the Input Source, the bit buffer and `inq` are empty, the tables are built, and
the FSM stands where that context is read (log 15). -/
def placeWord (s : State) (nbits w : Nat) : State :=
  let s := { s.withFixedTables with
    bitbuf := 0, bitcnt := 0, inq := [], src := [wordBytes nbits w], req := none }
  match tableContext nbits w with
  | .header => { s with state := .readHeader }
  | .token lit dict => { s with state := .decodeLoop, lit := lit, dict := dict }
  | .code a => { s with state := .decodeLoop, req := some (.code a) }

end Sys2Proof.Machine
end

