-- ==== Sys2Proof/Machine/Cycle.lean ====
section
/-! DEFINITION. What one step does: hardware reset, the boot build, a waiting request, or the running
session's next instruction. -/

namespace Sys2Proof.Machine

/-- Run what was fetched; an error met while fetching is taken (R256, R263). -/
def runFetched (r : Res Instr) : Host.Outcome State Fault Refusal :=
  match r with
  | .ok i s => exec i s
  | .raised k s => .next (s.raise k)
  | .fault f => .fault f
  | .refused x => .refused x

/-- Serve a request (log 10): an operation is run as it is; a code is read from the stream and run; a
stream token is no operation of an interface. -/
def serve (r : Request) (s : State) : Host.Outcome State Fault Refusal :=
  match r with
  | .hardReset => .next s.hardReset
  | .issue i => if isOperation i then exec i s else .refused .notARequest
  | .code a => runFetched (fetch (.code a) s)

/-- The FSM's own step (R213, R232): the header, one token, or nothing outside a session. -/
def runSession (s : State) : Host.Outcome State Fault Refusal :=
  match s.state with
  | .readHeader => runFetched (fetch s.ctx s)
  | .decodeLoop => runFetched (fetch s.ctx s)
  | .idle | .done | .error => .next s

/-- Whether a request is the host's command `start` (R211). -/
def Request.isStart (r : Request) : Bool := decide (r = .issue .start)

/-- One step. Hardware reset comes first (R290: in any state). After reset the core builds its tables
before it accepts anything (R292, R293), one step for the whole build (log 14), and a `start` that
waits there is refused (U12). After a session's end nothing but `start` is executed: any other request
is taken off and changes nothing (R232, R260). Else a request waiting at the interfaces is served, or
the session goes on. -/
def cycle (s : State) : Host.Outcome State Fault Refusal :=
  match s.req with
  | some .hardReset => .next s.hardReset
  | some r =>
    if s.state == .idle && !s.tablesBuilt then
      if r.isStart then exec .start s else (boot s).toOutcome
    else if s.ended && !r.isStart then .next { s with req := none }
    else serve r { s with req := none }
  | none => if s.state == .idle && !s.tablesBuilt then (boot s).toOutcome else runSession s

end Sys2Proof.Machine
end

