-- ==== Sys2Proof/Machine/Step.lean ====
section
/-! DEFINITION. The step function, and how a word of the opcode table is put before it. -/

namespace Sys2Proof.Machine

/-- One step of the machine: `cycle`. -/
def step (s : State) : Host.Outcome State Fault Refusal := cycle s

/-- `s` with the opcode-table word `w` of `nbits` bits where the next step fetches: `placeWord`. -/
def State.withFetchWord (s : State) (nbits w : Nat) : State := placeWord s nbits w

end Sys2Proof.Machine
end

