-- ==== Sys2Proof/Safety.lean ====
section
/-! DEFINITION. What claims speak in: the stream ahead, the stream position, what the sink has been
given, the invariants of R43, and the session's output as an unbounded history (R200). -/

namespace Sys2Proof.Machine

/-! ### The stream -/

/-- The bytes the Input Source will still deliver before it reports the end (R62). -/
def upcoming : List (List Byte) → List Byte
  | [] => []
  | [] :: _ => []
  | (b :: c) :: cs => b :: c ++ upcoming cs

/-- The stream from here on: the valid bits of `bitbuf`, then `inq`, then what the source will still
deliver (R12, R22, R23, R66). -/
def State.bits (s : State) : Bits :=
  natBits s.bitcnt.toNat s.bitbuf.toNat ++ (s.inq ++ upcoming s.src).flatMap byteBits

/-- The stream position, the core's program counter (R24). -/
def State.spos (s : State) : Int := 8 * (s.consumed : Int) - (s.bitcnt.toNat : Int)

/-- `s` and `t` differ in the bit reader and the Input Source only: what taking bits may change. -/
def SameButReader (s t : State) : Prop :=
  t = { s with bitbuf := t.bitbuf, bitcnt := t.bitcnt, inq := t.inq, src := t.src, bus := t.bus,
               consumed := t.consumed }

/-- `s` and `t` differ only in what reading an instruction from the stream may write: the bit reader
and the Input Source, `lit` and `dict` (R212), `mlen` (R216), `mdist` (R219), `sym` and the decoder's scratch
(R172), and the model's `fresh`. -/
def SameButFetch (s t : State) : Prop :=
  t = { s with bitbuf := t.bitbuf, bitcnt := t.bitcnt, inq := t.inq, src := t.src, bus := t.bus,
               consumed := t.consumed, lit := t.lit, dict := t.dict, mlen := t.mlen,
               mdist := t.mdist, sym := t.sym, code := t.code, firstc := t.firstc,
               index := t.index, clen := t.clen, fresh := t.fresh }

/-- The error kind the core raises where the decoder rejects (R103, R134, R173). -/
def rejectKind : Reject → ErrorKind
  | .endOfInput => .endOfInput
  | .formatError => .formatError
  | .invalidCode => .invalidCode

/-! ### What the sink has been given -/

/-- The push transactions made so far, oldest first (R15). -/
def pushesOf : List Transaction → List (List Byte × Bool)
  | [] => []
  | .pull _ :: ts => pushesOf ts
  | .push b f :: ts => (b, f) :: pushesOf ts

/-- The pushes a state has behind it. -/
def State.pushes (s : State) : List (List Byte × Bool) := pushesOf s.bus

/-- `OUT`: the bytes of all pushes that did not fail (R15). -/
def State.out (s : State) : List Byte :=
  s.pushes.flatMap fun p => if p.2 then [] else p.1

/-- The answer the next push will get: whether it fails (R63; log 7). -/
def State.nextAnswer (s : State) : Bool := s.sink.headD false

/-- The sink will accept every push from here on. -/
def State.sinkAccepts (s : State) : Prop := ∀ f ∈ s.sink, f = false

/-! ### What an operation keeps -/

/-- The three tables and `tables_built` are as before (R25, R33). -/
def KeepsTables (s t : State) : Prop := (∀ a, t.table a = s.table a) ∧ t.tablesBuilt = s.tablesBuilt

/-- `t` is the error state of kind `k`, entered from `s`: nothing but `state` and `status` is defined,
and the tables are kept (R42, R256, R257). -/
def FailsWith (k : ErrorKind) (s t : State) : Prop :=
  t.state = .error ∧ t.status = .failed k ∧ KeepsTables s t

/-- The values R290 gives for reset. -/
def AfterReset (s : State) : Prop :=
  s.state = .idle ∧ s.status = .success ∧ s.bitbuf = 0 ∧ s.bitcnt = 0 ∧ s.inq = [] ∧ s.next = 0 ∧
  s.firstFill = true ∧ s.tablesBuilt = false

/-! ### The code a length list describes -/

/-- `F(l)` (R118): the first code value of length `l`; `F(1) = 0`, `F(l+1) = (F(l) + count[l]) * 2`. -/
def firstCode (lengths : List Nat) : Nat → Nat
  | 0 => 0
  | 1 => 0
  | l + 2 => (firstCode lengths (l + 1) + lengths.count (l + 1)) * 2

/-- The code value of symbol `k` (R118): `F(l)` plus its rank among the symbols of its length. -/
def canonicalCode (lengths : List Nat) (k : Nat) : Nat :=
  firstCode lengths (lengths.getD k 0) + (lengths.take k).count (lengths.getD k 0)

/-- `left` after length `l` in closed form (R154). -/
def leftAfter (lengths : List Nat) (l : Nat) : Int :=
  2 ^ l - ((List.range l).map fun j => (lengths.count (j + 1) : Int) * 2 ^ (l - (j + 1))).sum

/-- The symbols ordered by length, then by symbol number (R25, R156). -/
def orderedSymbols (lengths : List Nat) : List Nat :=
  (List.range hw.maxBits).flatMap fun j =>
    (List.range lengths.length).filter fun k => lengths.getD k 0 == j + 1

/-! ### Invariants -/

/-- R43 (a), R136: at most 7 bits are buffered and nothing stands above them. -/
def ReaderOk (s : State) : Prop := s.bitcnt.toNat ≤ 7 ∧ s.bitbuf.toNat < 2 ^ s.bitcnt.toNat

/-- R43 (b) and R41: `next` is inside the window, and every byte a copy or a flush may read has been
written: those below `next` during first fill, all of them afterwards. -/
def WindowOk (s : State) : Prop :=
  s.next.toNat < hw.winSize ∧
  (s.firstFill = true → ∀ a < s.next.toNat, (s.win.read a).isSome) ∧
  (s.firstFill = false → ∀ a < hw.winSize, (s.win.read a).isSome)

/-- The three tables are those of R107, R109 and R112. -/
def TablesFixed (s : State) : Prop := ∀ a, s.table a = fixedTable a

/-- The symbol memories have their sizes (R60). -/
def SymbolSizes (s : State) : Prop := ∀ a, (s.table a).symbol.length = a.size

/-- What holds of the core between steps when no sub-block is put to work from outside (R43, R22,
R25, R33, R212, R211). -/
structure Inv (s : State) : Prop where
  /-- The window memory keeps its canonical form. -/
  memory : s.win.wf = true
  /-- The table memories keep their sizes. -/
  sizes : SymbolSizes s
  /-- Once built, the tables are the fixed ones (R25, R33). -/
  tables : s.tablesBuilt = true → TablesFixed s
  /-- A session runs, or has run, only with tables built (R293). -/
  built : s.state ≠ .idle → s.tablesBuilt = true
  /-- R43 (a). -/
  reader : s.running = true → ReaderOk s
  /-- R43 (b), R41. -/
  window : s.running = true → WindowOk s
  /-- R43 (e). -/
  header : s.state = .decodeLoop → legalLit s.lit = true ∧ legalDict s.dict = true

/-- What may wait at the interfaces of a core left to its host: nothing, hardware reset, or `start`
(R34, R290); not an operation put to a sub-block (log 10). -/
def HostOnly (s : State) : Prop :=
  s.req = none ∨ s.req = some .hardReset ∨ s.req = some (.issue .start)

/-! ### The session's output as a history (R200) -/

/-- `e` is what the session has emitted so far: `next` and `first_fill` follow its length (R43 c), and
each of the last WINSIZE bytes stands in the window at its position modulo WINSIZE (R200). -/
structure History (s : State) (e : List Byte) : Prop where
  next : s.next.toNat = e.length % hw.winSize
  fill : s.firstFill = decide (e.length < hw.winSize)
  recent : ∀ p, p < e.length → e.length ≤ p + hw.winSize → s.win.read (p % hw.winSize) = e[p]?

/-- Of the history `e`, the whole windows have been pushed, after what was output before, `o`
(R43 c, d; R202). -/
def Flushed (s : State) (o e : List Byte) : Prop :=
  s.out = o ++ e.take (e.length / hw.winSize * hw.winSize)

/-- What a back-reference appends to a history: `len` times the byte `dist` back, each taken after the
one before (R199, R200). -/
def expand : Nat → Nat → List Byte → List Byte
  | 0, _, e => e
  | n + 1, dist, e => expand n dist (e ++ [e.getD (e.length - dist) 0])

/-! ### The session without the machine (R230, R200) -/

/-- What a stream decodes to, by the decoder alone and on an unbounded output: all bytes emitted, and
the terminal status. `fuel` bounds the number of instructions. -/
def sessionResult : Nat → Ctx → Bits → List Byte → List Byte × Status
  | 0, _, _, e => (e, .failed .endOfInput)
  | fuel + 1, ctx, bits, e =>
    match decode ctx bits with
    | .error r => (e, .failed (rejectKind r))
    | .ok (.hdr lit dict, rest) => sessionResult fuel (.token lit dict) rest e
    | .ok (.litRaw b, rest) => sessionResult fuel ctx rest (e ++ [b])
    | .ok (.litHuf b, rest) => sessionResult fuel ctx rest (e ++ [b])
    | .ok (.match2 dist, rest) =>
      if e.length < dist.toNat then (e, .failed .distanceTooFar)
      else sessionResult fuel ctx rest (expand 2 dist.toNat e)
    | .ok (.matchN len dist, rest) =>
      if e.length < dist.toNat then (e, .failed .distanceTooFar)
      else sessionResult fuel ctx rest (expand len.toNat dist.toNat e)
    | .ok (_, _) => (e, .success)

/-- What of the bytes emitted reaches the sink: all of them on success, the whole windows on an error
(R202, R258). -/
def delivered (r : List Byte × Status) : List Byte :=
  if r.2 = .success then r.1 else r.1.take (r.1.length / hw.winSize * hw.winSize)

end Sys2Proof.Machine
end

