-- ==== Sys2Proof/Certificates/Slice0/Obligations.lean ====
section
/-! DEFINITION. The statements about the model, one `def Obligations.<Name> : Prop` each, in the order of
OBLIGATIONS.json. -/

section

open Sys2Proof Sys2Proof.Machine

/-! ### Reset, boot, start, the registers a host reads -/

/-- R290 with the values of R40 (the spec's decision D14): hardware reset gives the reset values in any
state and makes no transaction; `State.reset` has the same values. That what is bound to the interfaces
stays is the model's choice (log 20). -/
def Obligations.HardResetFromAnyState : Prop :=
  AfterReset State.reset ∧
  ∀ s : State, s.req = some .hardReset →
    ∃ t, step s = .next t ∧ AfterReset t ∧ t.bus = s.bus ∧ t.src = s.src ∧ t.sink = s.sink

/-- R292, R107, R109, R112: after reset a step builds the three fixed tables and sets `tables_built`,
whatever the table memories held, and changes nothing else but the builder's scratch. That the build is
one step and comes before a waiting sub-block request is the model's choice (log 14). -/
def Obligations.BootBuildsTables : Prop :=
  ∀ s : State, s.state = .idle → s.tablesBuilt = false → s.req ≠ some .hardReset →
    s.req ≠ some (.issue .start) → SymbolSizes s →
    ∃ t, step s = .next t ∧ t.tablesBuilt = true ∧ TablesFixed t ∧
      t = { s with litTable := t.litTable, lenTable := t.lenTable, distTable := t.distTable,
                   tablesBuilt := true, clen := t.clen, left := t.left, nsym := t.nsym,
                   lengths := t.lengths, offs := t.offs, fresh := t.fresh }

/-- R160: `construct` of the three fixed lists gives the tables of R107, R109, R112, status 0. -/
def Obligations.ConstructFixedLists : Prop :=
  ∀ s : State, SymbolSizes s →
    ∀ p ∈ [(Alphabet.lit, hw.litLenSpec, (256 : BitVec 9)), (.len, hw.lenLenSpec, 16),
           (.dist, hw.distLenSpec, 64)],
      ∃ t, exec (.construct p.1 p.2.1 p.2.2) s = .next t ∧ t.table p.1 = fixedTable p.1 ∧
        (t.table p.1).status = 0

/-- R211: `start` outside a session, with the tables built, creates one: every session register takes its
session-start value, the window is not cleared; it is refused while a session runs (the spec's decision D13) and
before the tables are built (R293), there also by the step it waits for. -/
def Obligations.StartCreatesSession : Prop :=
  ∀ s : State,
    (s.running = false → s.tablesBuilt = true →
      ∃ t, exec .start s = .next t ∧ t.state = .readHeader ∧ t.status = .success ∧
        t.bitbuf = 0 ∧ t.bitcnt = 0 ∧ t.inq = [] ∧ t.next = 0 ∧ t.firstFill = true ∧ t.spos = 0 ∧
        t.win = s.win ∧ KeepsTables s t ∧ t.bus = s.bus ∧ t.src = s.src ∧ t.sink = s.sink ∧
        t.req = s.req ∧ t.result = s.result) ∧
    (s.running = true → exec .start s = .refused .startWhileRunning) ∧
    (s.running = false → s.tablesBuilt = false → exec .start s = .refused .startBeforeTables) ∧
    (s.req = some (.issue .start) → s.running = true → step s = .refused .startWhileRunning) ∧
    (s.req = some (.issue .start) → s.running = false → s.tablesBuilt = false →
      step s = .refused .startBeforeTables)

/-- R34, R29, R30: CSR 0 reads the state's number, CSR 1 the status's; the numbers above 4 and above 5
are never produced, different states and statuses read differently, and there is no other CSR. The
numbers are the spec's decisions D8 and D13. -/
def Obligations.StateAndStatusReads : Prop :=
  (∀ s : State, s.readCsr 0 = some s.state.number ∧ s.readCsr 1 = some s.status.number ∧
    ∀ n, 2 ≤ n → s.readCsr n = none) ∧
  (∀ q : FsmState, q.number.toNat ≤ 4) ∧ (∀ k : Status, k.number.toNat ≤ 5) ∧
  (∀ q q' : FsmState, q.number = q'.number → q = q') ∧
  (∀ k k' : Status, k.number = k'.number → k = k')

/-! ### A step runs the decoded instruction -/

/-- R213, R230, R24: in a running session with nothing waiting, a step is `exec` of the instruction the
stream ahead decodes to, at a state that has moved past exactly that instruction's bits, has made no
push, and differs only in what reading the stream writes; outside the header `lit` and `dict` stay. -/
def Obligations.StepRunsDecodedInstruction : Prop :=
  ∀ (s : State) (i : Instr) (rest : Bits), s.req = none → s.running = true → ReaderOk s →
    TablesFixed s → s.ctx.legal = true → decode s.ctx s.bits = .ok (i, rest) →
      ∃ u, step s = exec i u ∧ u.bits = rest ∧ ReaderOk u ∧ SameButFetch s u ∧
        (s.state = .decodeLoop → u.lit = s.lit ∧ u.dict = s.dict) ∧ u.pushes = s.pushes ∧
        u.spos = s.spos + ((s.bits.length : Int) - rest.length)

/-- R256, R263, R134: where the stream ahead does not decode, a step enters `Error` with the kind of the
first error met, and makes no push. -/
def Obligations.StepTakesDecodeError : Prop :=
  ∀ (s : State) (e : Reject), s.req = none → s.running = true → ReaderOk s → TablesFixed s →
    s.ctx.legal = true → decode s.ctx s.bits = .error e →
      ∃ t, step s = .next t ∧ FailsWith (rejectKind e) s t ∧ t.pushes = s.pushes

/-- The model's own request port (log 10): outside boot, and until a session has ended, a waiting
operation is run by `exec`; a waiting request for a code runs the code row of the symbol the stream ahead
decodes to, at a state past its bits; a stream token is refused there. -/
def Obligations.RequestsRunOperations : Prop :=
  ∀ s : State, ¬ (s.state = .idle ∧ s.tablesBuilt = false) → s.state ≠ .done → s.state ≠ .error →
    (∀ i, s.req = some (.issue i) → isOperation i = true → step s = exec i { s with req := none }) ∧
    (∀ i, s.req = some (.issue i) → isOperation i = false → step s = .refused .notARequest) ∧
    (∀ a i rest, s.req = some (.code a) → ReaderOk s → TablesFixed s →
      decode (.code a) s.bits = .ok (i, rest) →
        ∃ u, step s = exec i u ∧ u.bits = rest ∧ SameButFetch { s with req := none } u ∧
          u.lit = s.lit ∧ u.dict = s.dict ∧ u.pushes = s.pushes)

/-- R232, R260: in `Done` and `Error` with nothing waiting a step changes nothing. That the same holds of
`Idle` once the tables are built is the model's reading (log 16): R232's unchanged row does not name
`Idle`. -/
def Obligations.NothingRunsOutsideSession : Prop :=
  ∀ s : State, s.req = none → s.running = false → (s.state = .idle → s.tablesBuilt = true) →
    step s = .next s

/-! ### Encoding -/

/-- R91, R94, R95, R96, R97, R98, R107, R109, R113: words written out from the spec's encodings decode to
the instructions they stand for. -/
def Obligations.KnownWordsDecode : Prop :=
  -- bytes `00 04`: `HDR 0, 4`
  decode .header (byteBits 0x00 ++ byteBits 0x04) = .ok (.hdr 0 4, []) ∧
  -- `0 10000010`: `LIT.RAW 0x41`
  decode (.token 0 4) [false, true, false, false, false, false, false, true, false] =
    .ok (.litRaw 0x41, []) ∧
  -- `0 1111`: `LIT.HUF 0x20`
  decode (.token 1 4) [false, true, true, true, true] = .ok (.litHuf 0x20, []) ∧
  -- `1 101 11 10`: `MATCH2 2`
  decode (.token 0 6) [true, true, false, true, true, true, true, false] = .ok (.match2 2, []) ∧
  -- `1 00100 1 11 1000`: `MATCH 11, 2`
  decode (.token 0 4)
    [true, false, false, true, false, false, true, true, true, true, false, false, false] =
    .ok (.matchN 11 2, []) ∧
  -- `1 0000000 11111111`: `END`
  decode (.token 0 4)
    [true, false, false, false, false, false, false, false,
     true, true, true, true, true, true, true, true] = .ok (.endMark, []) ∧
  -- `101`: `LEN.1`; `11`: `DIST.0`; `1111`: `LIT.32`
  decode (.code .len) [true, false, true] = .ok (.len1, []) ∧
  decode (.code .dist) [true, true] = .ok (.dist0, []) ∧
  decode (.code .lit) [true, true, true, true] = .ok (.lit32, [])

/-- R93, R100: in every legal context, every instruction the stream can hold there is what its encoding
decodes to, whatever bits follow. -/
def Obligations.DecodeEncode : Prop :=
  ∀ (ctx : Ctx) (i : Instr) (rest : Bits), ctx.legal = true → ctx.holds i = true →
    decode ctx (encode ctx i ++ rest) = .ok (i, rest)

/-- R90, R93, R100: what decodes is an instruction the context holds, well formed, and the bits taken are
its encoding: each instruction has one encoding and none is read from other bits. -/
def Obligations.DecodeSound : Prop :=
  ∀ (ctx : Ctx) (bits rest : Bits) (i : Instr), ctx.legal = true → decode ctx bits = .ok (i, rest) →
    ctx.holds i = true ∧ i.wellFormed = true ∧ encode ctx i ++ rest = bits

/-- R118 for the three alphabets: each code row's length is the one its compact list gives the symbol,
and its code value is the canonical one. -/
def Obligations.CodesAreCanonical : Prop :=
  ∀ p ∈ [(Alphabet.lit, hw.litLenSpec), (.len, hw.lenLenSpec), (.dist, hw.distLenSpec)],
    codesOf p.1 = (List.range p.1.size).map fun k =>
      ((expandLengths p.2 p.1.size).getD k 0, canonicalCode (expandLengths p.2 p.1.size) k)

/-! ### bit_reader -/

/-- R131, R136: with `n` bits ahead `takeBits(n)` answers the next `n` bits of the stream, least
significant first, advances by exactly `n`, fetches `max(0, ceil((n - bitcnt) / 8))` bytes, and keeps
the buffer's invariant; with fewer it raises `EndOfInput`. Where the response is left is log 9. -/
def Obligations.TakeBits : Prop :=
  ∀ (s : State) (n : BitVec 5), n.toNat ≤ 16 → ReaderOk s →
    (n.toNat ≤ s.bits.length →
      ∃ t, exec (.takeBits n) s = .next t ∧ t.result.toNat = bitsToNat (s.bits.take n.toNat) ∧
        t.bits = s.bits.drop n.toNat ∧ t.spos = s.spos + n.toNat ∧ ReaderOk t ∧
        t.consumed = s.consumed + (n.toNat - s.bitcnt.toNat + 7) / 8 ∧ t.pushes = s.pushes ∧
        SameButReader { s with result := t.result } t) ∧
    (s.bits.length < n.toNat →
      ∃ t, exec (.takeBits n) s = .next t ∧ FailsWith .endOfInput s t ∧ t.pushes = s.pushes)

/-- R133: `takeBits(0)` returns 0 and changes nothing, in any state. -/
def Obligations.TakeBitsZero : Prop :=
  ∀ s : State, exec (.takeBits 0) s = .next { s with result := 0 }

/-- R137: for `a + b` up to 16, taking `a` and then `b` bits has the same effect as taking `a + b` at
once, and the two values join as `u | (v << a)`; if the input runs out both raise `EndOfInput`. -/
def Obligations.TakeBitsSplits : Prop :=
  ∀ (s : State) (a b : BitVec 5), a.toNat + b.toNat ≤ 16 → ReaderOk s →
    (a.toNat + b.toNat ≤ s.bits.length →
      ∃ t u v, exec (.takeBits (a + b)) s = .next t ∧ exec (.takeBits a) s = .next u ∧
        exec (.takeBits b) u = .next v ∧ v = { t with result := v.result } ∧
        t.result.toNat = u.result.toNat ||| (v.result.toNat <<< a.toNat)) ∧
    (s.bits.length < a.toNat + b.toNat →
      (∃ t, exec (.takeBits (a + b)) s = .next t ∧ FailsWith .endOfInput s t) ∧
      ∃ u, exec (.takeBits a) s = .next u ∧
        (FailsWith .endOfInput s u ∨
          (u.state = s.state ∧ ∃ v, exec (.takeBits b) u = .next v ∧ FailsWith .endOfInput u v)))

/-- R132: `fetchByte()` answers the next byte of `IN` and takes it; it pulls only when `inq` is empty,
once; with no byte left it raises `EndOfInput`. Where the byte is left is log 9. -/
def Obligations.FetchByte : Prop :=
  ∀ s : State,
    (∀ b rest, s.inq ++ upcoming s.src = b :: rest →
      ∃ t, exec .fetchByte s = .next t ∧ t.result = b.setWidth 16 ∧ t.inq ++ upcoming t.src = rest ∧
        (s.inq ≠ [] → t.src = s.src ∧ t.bus = s.bus) ∧
        (s.inq = [] → t.bus = s.bus ++ [.pull (b :: t.inq)]) ∧
        t = { s with inq := t.inq, src := t.src, bus := t.bus, consumed := s.consumed + 1,
                     result := t.result }) ∧
    (s.inq ++ upcoming s.src = [] →
      ∃ t, exec .fetchByte s = .next t ∧ FailsWith .endOfInput s t ∧ t.bus = s.bus ++ [.pull []])

/-- R135: two running sessions that differ only in how the same bytes still to come are cut into chunks
make the same pushes and reach the same state and status, step by step. -/
def Obligations.ChunkingUnobservable : Prop :=
  ∀ (k : Nat) (s s' : State), s.running = true → s.req = none →
    s' = { s with inq := s'.inq, src := s'.src, bus := s'.bus } →
    s'.inq ++ upcoming s'.src = s.inq ++ upcoming s.src → s'.pushes = s.pushes →
    ∀ t, Sys2Proof.core.run k s = .next t →
      ∃ t', Sys2Proof.core.run k s' = .next t' ∧ t'.state = t.state ∧ t'.status = t.status ∧
        t'.pushes = t.pushes

/-! ### canonical_huffman_table_builder and huffman_decoder -/

/-- R150, R151, R152, R158, R25: `construct` into any table completes whenever the list describes as many
symbols as declared; `count[l]` is the number of symbols of length `l`; the other tables and everything
but the builder's scratch stay. That a count above the size of the table's memory completes too is the
model's choice (log 26). -/
def Obligations.ConstructCompletes : Prop :=
  ∀ (a : Alphabet) (list : List Byte) (n : BitVec 9) (s : State),
    n.toNat ≤ listSymbols list →
      ∃ t, exec (.construct a list n) s = .next t ∧
        (t.table a).count =
          (List.range 17).map (fun l => (expandLengths list n.toNat).count l) ∧
        (∀ b, b ≠ a → t.table b = s.table b) ∧
        t = { (s.setTable a (t.table a)) with
              clen := t.clen, left := t.left, nsym := t.nsym, lengths := t.lengths, offs := t.offs,
              fresh := t.fresh }

/-- R153, R154, R157: the status `construct` stores: 0 for the all-zero list; else the first negative
`left`, if any is negative; else `left` after the last length. The magnitudes are the spec's decision
D18, the closed form of `left` its derivation. -/
def Obligations.ConstructStatus : Prop :=
  ∀ (a : Alphabet) (list : List Byte) (n : BitVec 9) (s t : State),
    exec (.construct a list n) s = .next t →
      let lengths := expandLengths list n.toNat
      (lengths.count 0 = lengths.length → (t.table a).status = 0) ∧
      (lengths.count 0 ≠ lengths.length → (∀ l ≤ 16, 0 ≤ leftAfter lengths l) →
        (t.table a).status = leftAfter lengths 16) ∧
      (lengths.count 0 ≠ lengths.length → ∀ l ≤ 16, leftAfter lengths l < 0 →
        (∀ j < l, 0 ≤ leftAfter lengths j) → (t.table a).status = leftAfter lengths l)

/-- R155, R156: for a list that is not over-subscribed `symbol[]` lists the coded symbols by length, then
by symbol number. The slots from there on keep what they held (R65, R159 f; log 23). With a count above
the size of the table's memory the slots it has and the symbols its entries can hold are as R156 says,
and an entry that can not hold its symbol is one of the alphabet's (log 26). -/
def Obligations.ConstructOrdersSymbols : Prop :=
  ∀ (a : Alphabet) (list : List Byte) (n : BitVec 9) (s t : State), SymbolSizes s →
    exec (.construct a list n) s = .next t →
      let lengths := expandLengths list n.toNat
      let coded := (orderedSymbols lengths).length
      (∀ l ≤ 16, 0 ≤ leftAfter lengths l) →
        coded = lengths.length - lengths.count 0 ∧
        (n.toNat ≤ a.size → (t.table a).symbol.take coded = orderedSymbols lengths) ∧
        (∀ (j k : Nat), j < a.size → (orderedSymbols lengths)[j]? = some k →
          ∃ v, (t.table a).symbol[j]? = some v ∧ v < a.size ∧ (k < a.size → v = k)) ∧
        (t.table a).symbol.drop coded = (s.table a).symbol.drop coded

/-- R172, R175, R180 for the fixed tables: `decode` reads the code the stream ahead starts with: `sym`
gets its symbol, exactly its bits are taken, nothing else changes but the decoder's scratch; cut short
it raises `EndOfInput`. -/
def Obligations.DecodeReadsFixedCode : Prop :=
  ∀ (a : Alphabet) (s : State), ReaderOk s → TablesFixed s →
    (∀ (k : Nat) (rest : Bits), k < a.size → s.bits = codeBits a k ++ rest →
      ∃ t, exec (.decode a) s = .next t ∧ t.sym = BitVec.ofNat 8 k ∧ t.bits = rest ∧ ReaderOk t ∧
        t.spos = s.spos + (codeBits a k).length ∧ t.pushes = s.pushes ∧
        SameButReader { s with sym := t.sym, code := t.code, firstc := t.firstc, index := t.index,
                               clen := t.clen, fresh := t.fresh } t) ∧
    ((∀ k < a.size, ¬ codeBits a k <+: s.bits) →
      ∃ t, exec (.decode a) s = .next t ∧ FailsWith .endOfInput s t ∧ t.pushes = s.pushes)

/-- R180, R118, R175 for any list: on a table `construct` has built without over-subscription, `decode`
returns a symbol and takes its code's bits whenever the stream ahead starts with the pattern of that
symbol's canonical code. With a count above the size of the table's memory the symbol returned is left
open, within the alphabet (log 26). -/
def Obligations.DecodeReadsConstructedCode : Prop :=
  ∀ (a : Alphabet) (list : List Byte) (n : BitVec 9) (s t u : State) (k l : Nat) (rest : Bits),
    SymbolSizes s → exec (.construct a list n) s = .next t → 0 ≤ (t.table a).status →
    u.table a = t.table a → ReaderOk u → k < n.toNat →
    (expandLengths list n.toNat).getD k 0 = l → l ≠ 0 →
    u.bits = codePattern l (canonicalCode (expandLengths list n.toNat) k) ++ rest →
      ∃ v, exec (.decode a) u = .next v ∧ (n.toNat ≤ a.size → v.sym = BitVec.ofNat 8 k) ∧
        v.sym.toNat < a.size ∧ v.bits = rest ∧ ReaderOk v ∧ v.spos = u.spos + l ∧
        v.pushes = u.pushes ∧ v.state = u.state

/-- R161 (P1), R176: on the table of a complete list with a code, `decode` with 16 bits ahead returns a
symbol, within 16 bits; it never raises `InvalidCode`. -/
def Obligations.CompleteTableDecodes : Prop :=
  ∀ (a : Alphabet) (list : List Byte) (n : BitVec 9) (s t u : State),
    exec (.construct a list n) s = .next t →
    (expandLengths list n.toNat).count 0 ≠ (expandLengths list n.toNat).length →
    (t.table a).status = 0 → u.table a = t.table a → ReaderOk u → 16 ≤ u.bits.length →
      ∃ v, exec (.decode a) u = .next v ∧ v.state = u.state ∧ v.status = u.status ∧
        u.spos < v.spos ∧ v.spos ≤ u.spos + 16

/-- R178, R173, R174: on a table without codes `decode` raises `InvalidCode` when 16 bits are ahead, and
`EndOfInput` when fewer are. -/
def Obligations.DecodeEmptyTable : Prop :=
  ∀ (a : Alphabet) (s : State), ReaderOk s → 0 ≤ (s.table a).status →
    (s.table a).count.tail = List.replicate 16 0 →
      ∃ t, exec (.decode a) s = .next t ∧ t.pushes = s.pushes ∧
        FailsWith (if 16 ≤ s.bits.length then .invalidCode else .endOfInput) s t

/-- R172, R27, R107, R109, R113: every code row, `LEN.0` to `LEN.15`, `DIST.0` to `DIST.63`, `LIT.0` to
`LIT.255`, completes in every state: `sym` gets that row's symbol, the decoder's scratch is dead, and
everything else stays. That a code row's bits are taken by the fetch is log 12. -/
def Obligations.CodeRowsSetSymbol : Prop :=
  ∀ (a : Alphabet) (k : Nat) (i : Instr) (s : State), (codeInstrs a)[k]? = some i →
    ∃ t, exec i s = .next t ∧ t.sym = BitVec.ofNat 8 k ∧
      t = { s with sym := t.sym, code := t.code, firstc := t.firstc, index := t.index,
                   clen := t.clen, fresh := t.fresh }

/-- R130, R151, R179 (U17, U18, U19): the requests the spec has a model refuse: more than 16 bits, a list
too short for its declared count, a table whose construction was over-subscribed. -/
def Obligations.RefusedRequests : Prop :=
  (∀ (s : State) (n : BitVec 5), 16 < n.toNat → exec (.takeBits n) s = .refused .takeBitsTooWide) ∧
  (∀ (s : State) (a : Alphabet), (s.table a).status < 0 →
    exec (.decode a) s = .refused .overSubscribedTable) ∧
  (∀ (s : State) (a : Alphabet) (list : List Byte) (n : BitVec 9), listSymbols list < n.toNat →
    exec (.construct a list n) s = .refused .listTooShort)

/-! ### sliding_window_circular_buffer -/

/-- R193, R197, R214, R215, R254: `putByte(b)`, and a literal once its byte is read, stores the byte at
`next`, adds one to `next`, and leaves every other byte and everything else; the byte that fills the
window has the whole window pushed, that byte included: if the push is accepted `next` and
`first_fill` are 0 and the window keeps its bytes, if not the core is in `Error` with `OutputError`. -/
def Obligations.PutByte : Prop :=
  ∀ (i : Instr) (b : Byte) (s : State), i = .putByte b ∨ i = .litRaw b ∨ i = .litHuf b →
    (s.next.toNat < 4095 →
      ∃ t, exec i s = .next t ∧ t.next.toNat = s.next.toNat + 1 ∧
        (∀ a, t.win.read a = if a = s.next.toNat then some b else s.win.read a) ∧
        t = { s with win := t.win, next := t.next }) ∧
    (s.next.toNat = 4095 → (∀ a < 4095, (s.win.read a).isSome) →
      ∃ t bytes, exec i s = .next t ∧ bytes.length = 4096 ∧
        (∀ a < 4096, bytes[a]? = if a = 4095 then some b else s.win.read a) ∧
        t.bus = s.bus ++ [.push bytes s.nextAnswer] ∧
        (s.nextAnswer = false →
          (∀ a, t.win.read a = if a = 4095 then some b else s.win.read a) ∧
          t = { s with win := t.win, next := 0, firstFill := false, sink := s.sink.tail,
                       bus := t.bus }) ∧
        (s.nextAnswer = true → FailsWith .outputError s t))

/-- R196, R63: `flush()` makes one push of `win[0 .. next-1]`, none when `next` is 0 (the spec's decision
D7), and changes nothing in the core; a failed push raises `OutputError`. -/
def Obligations.FlushPushesPrefix : Prop :=
  ∀ s : State,
    (s.next = 0 → exec .flush s = .next s) ∧
    (s.next ≠ 0 → s.next.toNat ≤ 4096 → (∀ a < s.next.toNat, (s.win.read a).isSome) →
      ∃ t bytes, exec .flush s = .next t ∧ bytes.length = s.next.toNat ∧
        (∀ a < s.next.toNat, bytes[a]? = s.win.read a) ∧
        t.bus = s.bus ++ [.push bytes s.nextAnswer] ∧
        (s.nextAnswer = false → t = { s with sink := s.sink.tail, bus := t.bus }) ∧
        (s.nextAnswer = true → FailsWith .outputError s t))

/-- R197: `wrap()` at `next` = WINSIZE pushes the whole window first; only when the push is accepted are
`next` and `first_fill` cleared; the window is not. -/
def Obligations.WrapPushesThenClears : Prop :=
  ∀ s : State, s.next.toNat = 4096 → (∀ a < 4096, (s.win.read a).isSome) →
    ∃ t bytes, exec .wrap s = .next t ∧ bytes.length = 4096 ∧
      (∀ a < 4096, bytes[a]? = s.win.read a) ∧ t.bus = s.bus ++ [.push bytes s.nextAnswer] ∧
      (s.nextAnswer = false →
        t = { s with next := 0, firstFill := false, sink := s.sink.tail, bus := t.bus }) ∧
      (s.nextAnswer = true → FailsWith .outputError s t)

/-- R197, R196 where the core itself never calls `wrap()`, at a `next` below WINSIZE (the model's choice,
log 17): what is buffered is pushed, nothing when `next` is 0, and `next` and `first_fill` are cleared. -/
def Obligations.WrapBeforeFull : Prop :=
  ∀ s : State,
    (s.next = 0 → exec .wrap s = .next { s with firstFill := false }) ∧
    (s.next ≠ 0 → s.next.toNat < 4096 → (∀ a < s.next.toNat, (s.win.read a).isSome) →
      ∃ t bytes, exec .wrap s = .next t ∧ bytes.length = s.next.toNat ∧
        (∀ a < s.next.toNat, bytes[a]? = s.win.read a) ∧
        t.bus = s.bus ++ [.push bytes s.nextAnswer] ∧
        (s.nextAnswer = false →
          t = { s with next := 0, firstFill := false, sink := s.sink.tail, bus := t.bus }) ∧
        (s.nextAnswer = true → FailsWith .outputError s t))

/-- R43, R70, R200: a byte emitted by `putByte` or a literal joins the history of emitted bytes: `next`,
`first_fill`, the window and what has been pushed follow it. -/
def Obligations.LiteralJoinsHistory : Prop :=
  ∀ (i : Instr) (b : Byte) (s : State) (e : List Byte),
    i = .putByte b ∨ i = .litRaw b ∨ i = .litHuf b → History s e → s.sinkAccepts →
      ∃ t, exec i s = .next t ∧ History t (e ++ [b]) ∧ t.sinkAccepts ∧
        (∀ o, Flushed s o e → Flushed t o (e ++ [b])) ∧
        t = { s with win := t.win, next := t.next, firstFill := t.firstFill, sink := t.sink,
                     bus := t.bus }

/-- R195, R199, R200, R76: `copy(len, dist)` with `dist` up to the bytes emitted and to the window's size
appends `len` times the byte `dist` positions ago, each taken after the one before; only the bytes at
`(next + i) mod WINSIZE`, `i < len`, are stored to. That `mlen` is left 0 and `mdist` as given by a copy
run on its own is log 6; the lengths 0, 1 and 519 to 1023, outside R195's 2 to 518, run as log 19
says. -/
def Obligations.CopyAppendsHistory : Prop :=
  ∀ (len : BitVec 10) (dist : BitVec 13) (s : State) (e : List Byte), History s e → s.sinkAccepts →
    1 ≤ dist.toNat → dist.toNat ≤ e.length → dist.toNat ≤ 4096 →
      ∃ t, exec (.copy len dist) s = .next t ∧ History t (expand len.toNat dist.toNat e) ∧
        t.sinkAccepts ∧ (∀ o, Flushed s o e → Flushed t o (expand len.toNat dist.toNat e)) ∧
        (∀ a, (∀ i < len.toNat, a ≠ (s.next.toNat + i) % 4096) → t.win.read a = s.win.read a) ∧
        t = { s with win := t.win, next := t.next, firstFill := t.firstFill, mlen := 0, mdist := dist,
                     sink := t.sink, bus := t.bus }

/-- R199: what a copy appends is the last `dist` bytes repeated and cut to `len`. -/
def Obligations.ExpandRepeats : Prop :=
  ∀ (len dist : Nat) (e : List Byte), 1 ≤ dist → dist ≤ e.length →
    expand len dist e =
      e ++ (List.range len).map fun i => e.getD (e.length - dist + i % dist) 0

/-- R195, R217, R218, R254: a copy whose wrap is rejected is abandoned: `OutputError`, and the failed push
of the full window is the last transaction. The lengths outside R195's and R217's ranges run as log 19
says. -/
def Obligations.CopyStopsAtFailedPush : Prop :=
  ∀ (i : Instr) (len : BitVec 10) (dist : BitVec 13) (s : State) (e : List Byte),
    i = .copy len dist ∨ i = .matchN len dist ∨ (i = .match2 dist ∧ len = 2) → History s e →
    s.nextAnswer = true → 1 ≤ dist.toNat → dist.toNat ≤ e.length → dist.toNat ≤ 4096 →
    4096 ≤ s.next.toNat + len.toNat →
      ∃ t bytes, exec i s = .next t ∧ FailsWith .outputError s t ∧
        t.bus = s.bus ++ [.push bytes true] ∧
        bytes = (expand (4096 - s.next.toNat) dist.toNat e).drop (e.length / 4096 * 4096)

/-! ### implode_decompressor -/

/-- R212: `HDR lit, dict` with legal fields writes them, enters `DecodeLoop`, and changes nothing else. -/
def Obligations.HdrAccepts : Prop :=
  ∀ (lit dict : Byte) (s : State), lit.toNat ≤ 1 → 4 ≤ dict.toNat → dict.toNat ≤ 6 →
    exec (.hdr lit dict) s = .next { s with lit := lit, dict := dict, state := .decodeLoop }

/-- R212, R251, R263 (a): the header step, by the bytes ahead: `EndOfInput` without a first byte;
`FormatError` for a first byte above 1, whatever follows; `EndOfInput` without a second byte;
`FormatError` for a second byte outside 4 to 6; else `DecodeLoop` with both fields written, 16 bits
further. No step of these pushes anything. The order of the checks is the spec's decision D6. -/
def Obligations.HeaderStep : Prop :=
  ∀ s : State, s.state = .readHeader → s.req = none → ReaderOk s →
    ∃ t, step s = .next t ∧ t.pushes = s.pushes ∧
      (s.bits.length < 8 → FailsWith .endOfInput s t) ∧
      (∀ b0 rest, s.bits = byteBits b0 ++ rest →
        (1 < b0.toNat → FailsWith .formatError s t) ∧
        (b0.toNat ≤ 1 → rest.length < 8 → FailsWith .endOfInput s t) ∧
        (b0.toNat ≤ 1 → ∀ b1 rest', rest = byteBits b1 ++ rest' →
          (b1.toNat < 4 ∨ 6 < b1.toNat → FailsWith .formatError s t) ∧
          (4 ≤ b1.toNat → b1.toNat ≤ 6 → t.state = .decodeLoop ∧ t.lit = b0 ∧ t.dict = b1 ∧
            t.spos = s.spos + 16 ∧ t.bits = rest')))

/-- R217, R218, R220: a back-reference whose distance reaches no further than the bytes emitted appends
its copy to the history; only the cursor's bytes are stored to; `mlen` and `mdist` are dead afterwards
and nothing else changes. The lengths of `MATCH` outside R217's 3 to 518 run as log 19 says. -/
def Obligations.MatchCopies : Prop :=
  ∀ (i : Instr) (len : BitVec 10) (dist : BitVec 13) (s : State) (e : List Byte),
    i = .matchN len dist ∨ (i = .match2 dist ∧ len = 2) → History s e → s.sinkAccepts →
    1 ≤ dist.toNat → dist.toNat ≤ e.length → dist.toNat ≤ 4096 →
      ∃ t, exec i s = .next t ∧ History t (expand len.toNat dist.toNat e) ∧ t.sinkAccepts ∧
        (∀ o, Flushed s o e → Flushed t o (expand len.toNat dist.toNat e)) ∧
        (∀ a, (∀ j < len.toNat, a ≠ (s.next.toNat + j) % 4096) → t.win.read a = s.win.read a) ∧
        t = { s with win := t.win, next := t.next, firstFill := t.firstFill, mlen := t.mlen,
                     mdist := t.mdist, sink := t.sink, bus := t.bus, fresh := t.fresh }

/-- R220, R253: during first fill a back-reference further than `next` raises `DistanceTooFar`, before any
byte is copied and without a transaction. The lengths of `MATCH` outside R217's 3 to 518 run as log 19
says. -/
def Obligations.MatchTooFar : Prop :=
  ∀ (i : Instr) (len : BitVec 10) (dist : BitVec 13) (s : State),
    i = .matchN len dist ∨ i = .match2 dist → s.firstFill = true → s.next.toNat < dist.toNat →
      ∃ t, exec i s = .next t ∧ FailsWith .distanceTooFar s t ∧ t.bus = s.bus

/-- R225, R198: `END` pushes what is left of the window, nothing when `next` is 0; only when that has not
failed is the session `Done` with `Success`; a failed push ends it in `OutputError`. -/
def Obligations.EndFinishes : Prop :=
  ∀ s : State, s.next.toNat ≤ 4096 → (∀ a < s.next.toNat, (s.win.read a).isSome) →
    ∃ t bytes, exec .endMark s = .next t ∧ KeepsTables s t ∧ bytes.length = s.next.toNat ∧
      (∀ a < s.next.toNat, bytes[a]? = s.win.read a) ∧
      t.bus = s.bus ++ (if s.next = 0 then [] else [.push bytes s.nextAnswer]) ∧
      (s.next = 0 ∨ s.nextAnswer = false → t.state = .done ∧ t.status = .success) ∧
      (s.next ≠ 0 → s.nextAnswer = true → FailsWith .outputError s t)

/-- R116: the table's comment row is not an instruction; the model refuses it by name. -/
def Obligations.ReadmeIsRefused : Prop :=
  ∀ s : State, exec .readme s = .refused .notAnInstruction

/-! ### The whole machine -/

/-- R232: the transitions of `state` a step can make when only the host's events wait (log 10): no other
transition exists. -/
def Obligations.FsmTransitions : Prop :=
  ∀ s t : State, HostOnly s → step s = .next t →
    (s.req = some .hardReset → t.state = .idle ∧ t.status = .success) ∧
    (s.req ≠ some .hardReset →
      (s.state = .idle → t.state = .idle ∨ (t.state = .readHeader ∧ s.req = some (.issue .start))) ∧
      (s.state = .readHeader → t.state = .decodeLoop ∨
        (t.state = .error ∧ (t.status = .failed .formatError ∨ t.status = .failed .endOfInput))) ∧
      (s.state = .decodeLoop → t.state = .decodeLoop ∨ (t.state = .done ∧ t.status = .success) ∨
        (t.state = .error ∧ (t.status = .failed .endOfInput ∨ t.status = .failed .invalidCode ∨
          t.status = .failed .distanceTooFar ∨ t.status = .failed .outputError))) ∧
      (s.state = .done ∨ s.state = .error →
        t = s ∨ (t.state = .readHeader ∧ s.req = some (.issue .start))))

/-- R301, R258, R225: a step that enters `Error` has not pushed the partial window: for every kind but
`OutputError` it has made no push at all, and for `OutputError` the failed push is the last transaction;
a step that reaches `Done` reports `Success`, and has made no push or one accepted push, its last
transaction. -/
def Obligations.NoOutputAfterFailureNoSuccessBeforeLastPush : Prop :=
  ∀ s t : State, HostOnly s → step s = .next t →
    (s.state ≠ .error → t.state = .error →
      (t.status ≠ .failed .outputError → t.pushes = s.pushes) ∧
      (t.status = .failed .outputError → ∃ bytes, t.bus.getLast? = some (.push bytes true))) ∧
    (s.state ≠ .done → t.state = .done →
      t.status = .success ∧ (t.pushes = s.pushes ∨
        ∃ bytes, t.pushes = s.pushes ++ [(bytes, false)] ∧
          t.bus.getLast? = some (.push bytes false)))

/-- R43, R40: the reset state meets the invariant. -/
def Obligations.InvReset : Prop := Inv State.reset

/-- R43, R25, R41: every step of a core left to its host keeps the invariant: the memory's canonical form,
the tables, at most 7 buffered bits with zeros above, `next` inside a window whose readable bytes are
written, legal header fields. -/
def Obligations.InvKept : Prop :=
  ∀ s t : State, Inv s → HostOnly s → step s = .next t → Inv t ∧ (t.req = none ∨ t.req = s.req)

/-- R41, R176, R234: from every state that meets the invariant a step answers a next state: no session
reads an unwritten window byte, and nothing is refused but a `start` to a running core (R211) or before
the tables are built (R293). -/
def Obligations.InvProgress : Prop :=
  ∀ s : State, Inv s → HostOnly s →
    ¬ ((s.running = true ∨ s.tablesBuilt = false) ∧ s.req = some (.issue .start)) →
      ∃ t, step s = .next t

/-- R176, R252: with the fixed tables no step raises `InvalidCode`. -/
def Obligations.InvalidCodeUnreachable : Prop :=
  ∀ s t : State, Inv s → HostOnly s → step s = .next t → s.state ≠ .error → t.state = .error →
    t.status ≠ .failed .invalidCode

/-- R234: every session over a finite input ends: from any state that meets the invariant with a session
running, after at most one step more than there are bits ahead the core is in `Done` or `Error`. -/
def Obligations.SessionsEnd : Prop :=
  ∀ s : State, Inv s → s.running = true → s.req = none →
    ∃ k t, k ≤ s.bits.length + 1 ∧ Sys2Proof.core.run k s = .next t ∧
      (t.state = .done ∨ t.state = .error)

/-- R291, R16, R261: two cores with built tables, whatever earlier sessions left in them, that start on the
same input and sink answers, go through the same states and statuses and make the same pushes. -/
def Obligations.SessionsAreIndependent : Prop :=
  ∀ (k : Nat) (s s' t : State), s.running = false → s'.running = false →
    s.tablesBuilt = true → s'.tablesBuilt = true → Inv s → Inv s' →
    s.req = some (.issue .start) → s'.req = some (.issue .start) →
    s.src = s'.src → s.sink = s'.sink → Sys2Proof.core.run (k + 1) s = .next t →
      ∃ t' p, Sys2Proof.core.run (k + 1) s' = .next t' ∧ t'.state = t.state ∧ t'.status = t.status ∧
        t.pushes = s.pushes ++ p ∧ t'.pushes = s'.pushes ++ p

/-- R25, R170: only `construct` writes a table: every other instruction keeps all three and
`tables_built`. -/
def Obligations.OnlyConstructWritesTables : Prop :=
  ∀ (i : Instr) (s t : State), (∀ a list n, i ≠ .construct a list n) → exec i s = .next t →
    KeepsTables s t

/-- R35, R197: once cleared, `first_fill` stays clear for the rest of the session: only `start` sets it. -/
def Obligations.FirstFillStaysClear : Prop :=
  ∀ (i : Instr) (s t : State), i ≠ .start → s.firstFill = false → exec i s = .next t →
    t.running = true → t.firstFill = false

/-- R31: the header fields are constant for the rest of the session. -/
def Obligations.HeaderFieldsConstant : Prop :=
  ∀ s t : State, HostOnly s → step s = .next t → s.state = .decodeLoop → t.state = .decodeLoop →
    t.lit = s.lit ∧ t.dict = s.dict

/-- R43 (c, d), R202, R258: a step of a session extends the bytes emitted, and of them exactly the whole
windows have been pushed; at `Done` all have; on an error other than `OutputError` none since. -/
def Obligations.EmittedBytesAreDelivered : Prop :=
  ∀ (s t : State) (o e : List Byte), Inv s → s.running = true → s.req = none → History s e →
    Flushed s o e → step s = .next t →
      (t.running = true → ∃ x, History t (e ++ x) ∧ Flushed t o (e ++ x)) ∧
      (t.state = .done → t.out = o ++ e) ∧
      (t.state = .error → t.status ≠ .failed .outputError → t.out = s.out)

/-- R230, R200, R202, R226: a session on an accepting sink does what the decoder and an unbounded output
say: it ends with that status, and has delivered all bytes on success, the whole windows of them on an
error. -/
def Obligations.SessionComputesResult : Prop :=
  ∀ s : State, Inv s → s.running = false → s.tablesBuilt = true →
    s.req = some (.issue .start) → s.sinkAccepts →
      let r := sessionResult (8 * (upcoming s.src).length + 1) .header
        ((upcoming s.src).flatMap byteBits) []
      ∃ k t, k ≤ 8 * (upcoming s.src).length + 2 ∧ Sys2Proof.core.run k s = .next t ∧
        t.status = r.2 ∧ t.state = (if r.2 = .success then .done else .error) ∧
        t.out = s.out ++ delivered r

/-- R232, R260: nothing is executed in `Done` and `Error`: any request but `start` and hardware reset is
taken off and changes nothing, so that no second error is possible; and `start` creates a session
there. -/
def Obligations.NothingRunsAfterTheEnd : Prop :=
  ∀ (s : State) (r : Request), s.state = .done ∨ s.state = .error → s.req = some r →
    (r ≠ .hardReset → r ≠ .issue .start → step s = .next { s with req := none }) ∧
    (r = .issue .start → s.tablesBuilt = true →
      ∃ t, step s = .next t ∧ t.state = .readHeader ∧ t.status = .success)

end
end

