-- ==== Sys2Proof/Laws/State.lean ====
section
/-! SUPPORT. For each named update of the state, what it leaves in each field. -/

namespace Sys2Proof.Machine

variable (s : State)

@[simp] theorem clearFirstFill_bitbuf : s.clearFirstFill.bitbuf = s.bitbuf := rfl
@[simp] theorem clearFirstFill_bitcnt : s.clearFirstFill.bitcnt = s.bitcnt := rfl
@[simp] theorem clearFirstFill_state : s.clearFirstFill.state = s.state := rfl
@[simp] theorem clearFirstFill_status : s.clearFirstFill.status = s.status := rfl
@[simp] theorem clearFirstFill_lit : s.clearFirstFill.lit = s.lit := rfl
@[simp] theorem clearFirstFill_dict : s.clearFirstFill.dict = s.dict := rfl
@[simp] theorem clearFirstFill_next : s.clearFirstFill.next = s.next := rfl
@[simp] theorem clearFirstFill_firstFill : s.clearFirstFill.firstFill = false := rfl
@[simp] theorem clearFirstFill_mlen : s.clearFirstFill.mlen = s.mlen := rfl
@[simp] theorem clearFirstFill_mdist : s.clearFirstFill.mdist = s.mdist := rfl
@[simp] theorem clearFirstFill_sym : s.clearFirstFill.sym = s.sym := rfl
@[simp] theorem clearFirstFill_code : s.clearFirstFill.code = s.code := rfl
@[simp] theorem clearFirstFill_firstc : s.clearFirstFill.firstc = s.firstc := rfl
@[simp] theorem clearFirstFill_index : s.clearFirstFill.index = s.index := rfl
@[simp] theorem clearFirstFill_clen : s.clearFirstFill.clen = s.clen := rfl
@[simp] theorem clearFirstFill_left : s.clearFirstFill.left = s.left := rfl
@[simp] theorem clearFirstFill_tablesBuilt : s.clearFirstFill.tablesBuilt = s.tablesBuilt := rfl
@[simp] theorem clearFirstFill_nsym : s.clearFirstFill.nsym = s.nsym := rfl
@[simp] theorem clearFirstFill_lengths : s.clearFirstFill.lengths = s.lengths := rfl
@[simp] theorem clearFirstFill_offs : s.clearFirstFill.offs = s.offs := rfl
@[simp] theorem clearFirstFill_litTable : s.clearFirstFill.litTable = s.litTable := rfl
@[simp] theorem clearFirstFill_lenTable : s.clearFirstFill.lenTable = s.lenTable := rfl
@[simp] theorem clearFirstFill_distTable : s.clearFirstFill.distTable = s.distTable := rfl
@[simp] theorem clearFirstFill_win : s.clearFirstFill.win = s.win := rfl
@[simp] theorem clearFirstFill_inq : s.clearFirstFill.inq = s.inq := rfl
@[simp] theorem clearFirstFill_consumed : s.clearFirstFill.consumed = s.consumed := rfl
@[simp] theorem clearFirstFill_src : s.clearFirstFill.src = s.src := rfl
@[simp] theorem clearFirstFill_sink : s.clearFirstFill.sink = s.sink := rfl
@[simp] theorem clearFirstFill_bus : s.clearFirstFill.bus = s.bus := rfl
@[simp] theorem clearFirstFill_req : s.clearFirstFill.req = s.req := rfl
@[simp] theorem clearFirstFill_result : s.clearFirstFill.result = s.result := rfl
@[simp] theorem clearFirstFill_fresh : s.clearFirstFill.fresh = s.fresh := rfl

@[simp] theorem forgetDecoder_bitbuf : s.forgetDecoder.bitbuf = s.bitbuf := rfl
@[simp] theorem forgetDecoder_bitcnt : s.forgetDecoder.bitcnt = s.bitcnt := rfl
@[simp] theorem forgetDecoder_state : s.forgetDecoder.state = s.state := rfl
@[simp] theorem forgetDecoder_status : s.forgetDecoder.status = s.status := rfl
@[simp] theorem forgetDecoder_lit : s.forgetDecoder.lit = s.lit := rfl
@[simp] theorem forgetDecoder_dict : s.forgetDecoder.dict = s.dict := rfl
@[simp] theorem forgetDecoder_next : s.forgetDecoder.next = s.next := rfl
@[simp] theorem forgetDecoder_firstFill : s.forgetDecoder.firstFill = s.firstFill := rfl
@[simp] theorem forgetDecoder_mlen : s.forgetDecoder.mlen = s.mlen := rfl
@[simp] theorem forgetDecoder_mdist : s.forgetDecoder.mdist = s.mdist := rfl
@[simp] theorem forgetDecoder_sym : s.forgetDecoder.sym = s.sym := rfl
@[simp] theorem forgetDecoder_code : s.forgetDecoder.code = Config.freeBits 17 11 s.fresh := rfl
@[simp] theorem forgetDecoder_firstc : s.forgetDecoder.firstc = Config.freeBits 18 12 s.fresh := rfl
@[simp] theorem forgetDecoder_index : s.forgetDecoder.index = Config.freeBits 9 13 s.fresh := rfl
@[simp] theorem forgetDecoder_clen : s.forgetDecoder.clen = Config.freeBits 5 14 s.fresh := rfl
@[simp] theorem forgetDecoder_left : s.forgetDecoder.left = s.left := rfl
@[simp] theorem forgetDecoder_tablesBuilt : s.forgetDecoder.tablesBuilt = s.tablesBuilt := rfl
@[simp] theorem forgetDecoder_nsym : s.forgetDecoder.nsym = s.nsym := rfl
@[simp] theorem forgetDecoder_lengths : s.forgetDecoder.lengths = s.lengths := rfl
@[simp] theorem forgetDecoder_offs : s.forgetDecoder.offs = s.offs := rfl
@[simp] theorem forgetDecoder_litTable : s.forgetDecoder.litTable = s.litTable := rfl
@[simp] theorem forgetDecoder_lenTable : s.forgetDecoder.lenTable = s.lenTable := rfl
@[simp] theorem forgetDecoder_distTable : s.forgetDecoder.distTable = s.distTable := rfl
@[simp] theorem forgetDecoder_win : s.forgetDecoder.win = s.win := rfl
@[simp] theorem forgetDecoder_inq : s.forgetDecoder.inq = s.inq := rfl
@[simp] theorem forgetDecoder_consumed : s.forgetDecoder.consumed = s.consumed := rfl
@[simp] theorem forgetDecoder_src : s.forgetDecoder.src = s.src := rfl
@[simp] theorem forgetDecoder_sink : s.forgetDecoder.sink = s.sink := rfl
@[simp] theorem forgetDecoder_bus : s.forgetDecoder.bus = s.bus := rfl
@[simp] theorem forgetDecoder_req : s.forgetDecoder.req = s.req := rfl
@[simp] theorem forgetDecoder_result : s.forgetDecoder.result = s.result := rfl
@[simp] theorem forgetDecoder_fresh : s.forgetDecoder.fresh = s.fresh + 1 := rfl

@[simp] theorem forgetBuilder_bitbuf : s.forgetBuilder.bitbuf = s.bitbuf := rfl
@[simp] theorem forgetBuilder_bitcnt : s.forgetBuilder.bitcnt = s.bitcnt := rfl
@[simp] theorem forgetBuilder_state : s.forgetBuilder.state = s.state := rfl
@[simp] theorem forgetBuilder_status : s.forgetBuilder.status = s.status := rfl
@[simp] theorem forgetBuilder_lit : s.forgetBuilder.lit = s.lit := rfl
@[simp] theorem forgetBuilder_dict : s.forgetBuilder.dict = s.dict := rfl
@[simp] theorem forgetBuilder_next : s.forgetBuilder.next = s.next := rfl
@[simp] theorem forgetBuilder_firstFill : s.forgetBuilder.firstFill = s.firstFill := rfl
@[simp] theorem forgetBuilder_mlen : s.forgetBuilder.mlen = s.mlen := rfl
@[simp] theorem forgetBuilder_mdist : s.forgetBuilder.mdist = s.mdist := rfl
@[simp] theorem forgetBuilder_sym : s.forgetBuilder.sym = s.sym := rfl
@[simp] theorem forgetBuilder_code : s.forgetBuilder.code = s.code := rfl
@[simp] theorem forgetBuilder_firstc : s.forgetBuilder.firstc = s.firstc := rfl
@[simp] theorem forgetBuilder_index : s.forgetBuilder.index = s.index := rfl
@[simp] theorem forgetBuilder_clen : s.forgetBuilder.clen = Config.freeBits 5 14 s.fresh := rfl
@[simp] theorem forgetBuilder_left : s.forgetBuilder.left = Config.freeBits 18 15 s.fresh := rfl
@[simp] theorem forgetBuilder_tablesBuilt : s.forgetBuilder.tablesBuilt = s.tablesBuilt := rfl
@[simp] theorem forgetBuilder_nsym : s.forgetBuilder.nsym = Config.freeBits 9 17 s.fresh := rfl
@[simp] theorem forgetBuilder_lengths : s.forgetBuilder.lengths = (List.range hw.maxSyms).map fun i => Config.freeBits 4 (100 + i) s.fresh := rfl
@[simp] theorem forgetBuilder_offs : s.forgetBuilder.offs = (List.range hw.maxBits).map fun i => Config.freeBits 9 (400 + i) s.fresh := rfl
@[simp] theorem forgetBuilder_litTable : s.forgetBuilder.litTable = s.litTable := rfl
@[simp] theorem forgetBuilder_lenTable : s.forgetBuilder.lenTable = s.lenTable := rfl
@[simp] theorem forgetBuilder_distTable : s.forgetBuilder.distTable = s.distTable := rfl
@[simp] theorem forgetBuilder_win : s.forgetBuilder.win = s.win := rfl
@[simp] theorem forgetBuilder_inq : s.forgetBuilder.inq = s.inq := rfl
@[simp] theorem forgetBuilder_consumed : s.forgetBuilder.consumed = s.consumed := rfl
@[simp] theorem forgetBuilder_src : s.forgetBuilder.src = s.src := rfl
@[simp] theorem forgetBuilder_sink : s.forgetBuilder.sink = s.sink := rfl
@[simp] theorem forgetBuilder_bus : s.forgetBuilder.bus = s.bus := rfl
@[simp] theorem forgetBuilder_req : s.forgetBuilder.req = s.req := rfl
@[simp] theorem forgetBuilder_result : s.forgetBuilder.result = s.result := rfl
@[simp] theorem forgetBuilder_fresh : s.forgetBuilder.fresh = s.fresh + 1 := rfl

@[simp] theorem forgetMatch_bitbuf : s.forgetMatch.bitbuf = s.bitbuf := rfl
@[simp] theorem forgetMatch_bitcnt : s.forgetMatch.bitcnt = s.bitcnt := rfl
@[simp] theorem forgetMatch_state : s.forgetMatch.state = s.state := rfl
@[simp] theorem forgetMatch_status : s.forgetMatch.status = s.status := rfl
@[simp] theorem forgetMatch_lit : s.forgetMatch.lit = s.lit := rfl
@[simp] theorem forgetMatch_dict : s.forgetMatch.dict = s.dict := rfl
@[simp] theorem forgetMatch_next : s.forgetMatch.next = s.next := rfl
@[simp] theorem forgetMatch_firstFill : s.forgetMatch.firstFill = s.firstFill := rfl
@[simp] theorem forgetMatch_mlen : s.forgetMatch.mlen = Config.freeBits 10 8 s.fresh := rfl
@[simp] theorem forgetMatch_mdist : s.forgetMatch.mdist = Config.freeBits 13 9 s.fresh := rfl
@[simp] theorem forgetMatch_sym : s.forgetMatch.sym = s.sym := rfl
@[simp] theorem forgetMatch_code : s.forgetMatch.code = s.code := rfl
@[simp] theorem forgetMatch_firstc : s.forgetMatch.firstc = s.firstc := rfl
@[simp] theorem forgetMatch_index : s.forgetMatch.index = s.index := rfl
@[simp] theorem forgetMatch_clen : s.forgetMatch.clen = s.clen := rfl
@[simp] theorem forgetMatch_left : s.forgetMatch.left = s.left := rfl
@[simp] theorem forgetMatch_tablesBuilt : s.forgetMatch.tablesBuilt = s.tablesBuilt := rfl
@[simp] theorem forgetMatch_nsym : s.forgetMatch.nsym = s.nsym := rfl
@[simp] theorem forgetMatch_lengths : s.forgetMatch.lengths = s.lengths := rfl
@[simp] theorem forgetMatch_offs : s.forgetMatch.offs = s.offs := rfl
@[simp] theorem forgetMatch_litTable : s.forgetMatch.litTable = s.litTable := rfl
@[simp] theorem forgetMatch_lenTable : s.forgetMatch.lenTable = s.lenTable := rfl
@[simp] theorem forgetMatch_distTable : s.forgetMatch.distTable = s.distTable := rfl
@[simp] theorem forgetMatch_win : s.forgetMatch.win = s.win := rfl
@[simp] theorem forgetMatch_inq : s.forgetMatch.inq = s.inq := rfl
@[simp] theorem forgetMatch_consumed : s.forgetMatch.consumed = s.consumed := rfl
@[simp] theorem forgetMatch_src : s.forgetMatch.src = s.src := rfl
@[simp] theorem forgetMatch_sink : s.forgetMatch.sink = s.sink := rfl
@[simp] theorem forgetMatch_bus : s.forgetMatch.bus = s.bus := rfl
@[simp] theorem forgetMatch_req : s.forgetMatch.req = s.req := rfl
@[simp] theorem forgetMatch_result : s.forgetMatch.result = s.result := rfl
@[simp] theorem forgetMatch_fresh : s.forgetMatch.fresh = s.fresh + 1 := rfl

@[simp] theorem forgetRegs_bitbuf : s.forgetRegs.bitbuf = Config.freeBits 23 0 s.fresh := rfl
@[simp] theorem forgetRegs_bitcnt : s.forgetRegs.bitcnt = Config.freeBits 5 1 s.fresh := rfl
@[simp] theorem forgetRegs_state : s.forgetRegs.state = s.state := rfl
@[simp] theorem forgetRegs_status : s.forgetRegs.status = s.status := rfl
@[simp] theorem forgetRegs_lit : s.forgetRegs.lit = Config.freeBits 8 4 s.fresh := rfl
@[simp] theorem forgetRegs_dict : s.forgetRegs.dict = Config.freeBits 8 5 s.fresh := rfl
@[simp] theorem forgetRegs_next : s.forgetRegs.next = Config.freeBits 13 6 s.fresh := rfl
@[simp] theorem forgetRegs_firstFill : s.forgetRegs.firstFill = Config.freeFlag 7 s.fresh := rfl
@[simp] theorem forgetRegs_mlen : s.forgetRegs.mlen = Config.freeBits 10 8 s.fresh := rfl
@[simp] theorem forgetRegs_mdist : s.forgetRegs.mdist = Config.freeBits 13 9 s.fresh := rfl
@[simp] theorem forgetRegs_sym : s.forgetRegs.sym = Config.freeBits 8 10 s.fresh := rfl
@[simp] theorem forgetRegs_code : s.forgetRegs.code = Config.freeBits 17 11 s.fresh := rfl
@[simp] theorem forgetRegs_firstc : s.forgetRegs.firstc = Config.freeBits 18 12 s.fresh := rfl
@[simp] theorem forgetRegs_index : s.forgetRegs.index = Config.freeBits 9 13 s.fresh := rfl
@[simp] theorem forgetRegs_clen : s.forgetRegs.clen = Config.freeBits 5 14 s.fresh := rfl
@[simp] theorem forgetRegs_left : s.forgetRegs.left = Config.freeBits 18 15 s.fresh := rfl
@[simp] theorem forgetRegs_tablesBuilt : s.forgetRegs.tablesBuilt = s.tablesBuilt := rfl
@[simp] theorem forgetRegs_nsym : s.forgetRegs.nsym = Config.freeBits 9 17 s.fresh := rfl
@[simp] theorem forgetRegs_lengths : s.forgetRegs.lengths = (List.range hw.maxSyms).map fun i => Config.freeBits 4 (100 + i) s.fresh := rfl
@[simp] theorem forgetRegs_offs : s.forgetRegs.offs = (List.range hw.maxBits).map fun i => Config.freeBits 9 (400 + i) s.fresh := rfl
@[simp] theorem forgetRegs_litTable : s.forgetRegs.litTable = s.litTable := rfl
@[simp] theorem forgetRegs_lenTable : s.forgetRegs.lenTable = s.lenTable := rfl
@[simp] theorem forgetRegs_distTable : s.forgetRegs.distTable = s.distTable := rfl
@[simp] theorem forgetRegs_win : s.forgetRegs.win = s.win := rfl
@[simp] theorem forgetRegs_inq : s.forgetRegs.inq = Config.freeQueue s.fresh := rfl
@[simp] theorem forgetRegs_consumed : s.forgetRegs.consumed = s.consumed := rfl
@[simp] theorem forgetRegs_src : s.forgetRegs.src = s.src := rfl
@[simp] theorem forgetRegs_sink : s.forgetRegs.sink = s.sink := rfl
@[simp] theorem forgetRegs_bus : s.forgetRegs.bus = s.bus := rfl
@[simp] theorem forgetRegs_req : s.forgetRegs.req = s.req := rfl
@[simp] theorem forgetRegs_result : s.forgetRegs.result = s.result := rfl
@[simp] theorem forgetRegs_fresh : s.forgetRegs.fresh = s.fresh + 1 := rfl

@[simp] theorem endSession_bitbuf : s.endSession.bitbuf = Config.freeBits 23 0 s.fresh := rfl
@[simp] theorem endSession_bitcnt : s.endSession.bitcnt = Config.freeBits 5 1 s.fresh := rfl
@[simp] theorem endSession_state : s.endSession.state = s.state := rfl
@[simp] theorem endSession_status : s.endSession.status = s.status := rfl
@[simp] theorem endSession_lit : s.endSession.lit = Config.freeBits 8 4 s.fresh := rfl
@[simp] theorem endSession_dict : s.endSession.dict = Config.freeBits 8 5 s.fresh := rfl
@[simp] theorem endSession_next : s.endSession.next = Config.freeBits 13 6 s.fresh := rfl
@[simp] theorem endSession_firstFill : s.endSession.firstFill = Config.freeFlag 7 s.fresh := rfl
@[simp] theorem endSession_mlen : s.endSession.mlen = Config.freeBits 10 8 s.fresh := rfl
@[simp] theorem endSession_mdist : s.endSession.mdist = Config.freeBits 13 9 s.fresh := rfl
@[simp] theorem endSession_sym : s.endSession.sym = Config.freeBits 8 10 s.fresh := rfl
@[simp] theorem endSession_code : s.endSession.code = Config.freeBits 17 11 s.fresh := rfl
@[simp] theorem endSession_firstc : s.endSession.firstc = Config.freeBits 18 12 s.fresh := rfl
@[simp] theorem endSession_index : s.endSession.index = Config.freeBits 9 13 s.fresh := rfl
@[simp] theorem endSession_clen : s.endSession.clen = Config.freeBits 5 14 s.fresh := rfl
@[simp] theorem endSession_left : s.endSession.left = Config.freeBits 18 15 s.fresh := rfl
@[simp] theorem endSession_tablesBuilt : s.endSession.tablesBuilt = s.tablesBuilt := rfl
@[simp] theorem endSession_nsym : s.endSession.nsym = Config.freeBits 9 17 s.fresh := rfl
@[simp] theorem endSession_lengths : s.endSession.lengths = (List.range hw.maxSyms).map fun i => Config.freeBits 4 (100 + i) s.fresh := rfl
@[simp] theorem endSession_offs : s.endSession.offs = (List.range hw.maxBits).map fun i => Config.freeBits 9 (400 + i) s.fresh := rfl
@[simp] theorem endSession_litTable : s.endSession.litTable = s.litTable := rfl
@[simp] theorem endSession_lenTable : s.endSession.lenTable = s.lenTable := rfl
@[simp] theorem endSession_distTable : s.endSession.distTable = s.distTable := rfl
@[simp] theorem endSession_win : s.endSession.win = [] := rfl
@[simp] theorem endSession_inq : s.endSession.inq = Config.freeQueue s.fresh := rfl
@[simp] theorem endSession_consumed : s.endSession.consumed = s.consumed := rfl
@[simp] theorem endSession_src : s.endSession.src = s.src := rfl
@[simp] theorem endSession_sink : s.endSession.sink = s.sink := rfl
@[simp] theorem endSession_bus : s.endSession.bus = s.bus := rfl
@[simp] theorem endSession_req : s.endSession.req = s.req := rfl
@[simp] theorem endSession_result : s.endSession.result = s.result := rfl
@[simp] theorem endSession_fresh : s.endSession.fresh = s.fresh + 1 := rfl

@[simp] theorem raise_bitbuf (k : ErrorKind) : (s.raise k).bitbuf = Config.freeBits 23 0 s.fresh := rfl
@[simp] theorem raise_bitcnt (k : ErrorKind) : (s.raise k).bitcnt = Config.freeBits 5 1 s.fresh := rfl
@[simp] theorem raise_state (k : ErrorKind) : (s.raise k).state = .error := rfl
@[simp] theorem raise_status (k : ErrorKind) : (s.raise k).status = .failed k := rfl
@[simp] theorem raise_lit (k : ErrorKind) : (s.raise k).lit = Config.freeBits 8 4 s.fresh := rfl
@[simp] theorem raise_dict (k : ErrorKind) : (s.raise k).dict = Config.freeBits 8 5 s.fresh := rfl
@[simp] theorem raise_next (k : ErrorKind) : (s.raise k).next = Config.freeBits 13 6 s.fresh := rfl
@[simp] theorem raise_firstFill (k : ErrorKind) : (s.raise k).firstFill = Config.freeFlag 7 s.fresh := rfl
@[simp] theorem raise_mlen (k : ErrorKind) : (s.raise k).mlen = Config.freeBits 10 8 s.fresh := rfl
@[simp] theorem raise_mdist (k : ErrorKind) : (s.raise k).mdist = Config.freeBits 13 9 s.fresh := rfl
@[simp] theorem raise_sym (k : ErrorKind) : (s.raise k).sym = Config.freeBits 8 10 s.fresh := rfl
@[simp] theorem raise_code (k : ErrorKind) : (s.raise k).code = Config.freeBits 17 11 s.fresh := rfl
@[simp] theorem raise_firstc (k : ErrorKind) : (s.raise k).firstc = Config.freeBits 18 12 s.fresh := rfl
@[simp] theorem raise_index (k : ErrorKind) : (s.raise k).index = Config.freeBits 9 13 s.fresh := rfl
@[simp] theorem raise_clen (k : ErrorKind) : (s.raise k).clen = Config.freeBits 5 14 s.fresh := rfl
@[simp] theorem raise_left (k : ErrorKind) : (s.raise k).left = Config.freeBits 18 15 s.fresh := rfl
@[simp] theorem raise_tablesBuilt (k : ErrorKind) : (s.raise k).tablesBuilt = s.tablesBuilt := rfl
@[simp] theorem raise_nsym (k : ErrorKind) : (s.raise k).nsym = Config.freeBits 9 17 s.fresh := rfl
@[simp] theorem raise_lengths (k : ErrorKind) : (s.raise k).lengths = (List.range hw.maxSyms).map fun i => Config.freeBits 4 (100 + i) s.fresh := rfl
@[simp] theorem raise_offs (k : ErrorKind) : (s.raise k).offs = (List.range hw.maxBits).map fun i => Config.freeBits 9 (400 + i) s.fresh := rfl
@[simp] theorem raise_litTable (k : ErrorKind) : (s.raise k).litTable = s.litTable := rfl
@[simp] theorem raise_lenTable (k : ErrorKind) : (s.raise k).lenTable = s.lenTable := rfl
@[simp] theorem raise_distTable (k : ErrorKind) : (s.raise k).distTable = s.distTable := rfl
@[simp] theorem raise_win (k : ErrorKind) : (s.raise k).win = [] := rfl
@[simp] theorem raise_inq (k : ErrorKind) : (s.raise k).inq = Config.freeQueue s.fresh := rfl
@[simp] theorem raise_consumed (k : ErrorKind) : (s.raise k).consumed = s.consumed := rfl
@[simp] theorem raise_src (k : ErrorKind) : (s.raise k).src = s.src := rfl
@[simp] theorem raise_sink (k : ErrorKind) : (s.raise k).sink = s.sink := rfl
@[simp] theorem raise_bus (k : ErrorKind) : (s.raise k).bus = s.bus := rfl
@[simp] theorem raise_req (k : ErrorKind) : (s.raise k).req = s.req := rfl
@[simp] theorem raise_result (k : ErrorKind) : (s.raise k).result = s.result := rfl
@[simp] theorem raise_fresh (k : ErrorKind) : (s.raise k).fresh = s.fresh + 1 := rfl

@[simp] theorem finish_bitbuf : s.finish.bitbuf = Config.freeBits 23 0 s.fresh := rfl
@[simp] theorem finish_bitcnt : s.finish.bitcnt = Config.freeBits 5 1 s.fresh := rfl
@[simp] theorem finish_state : s.finish.state = .done := rfl
@[simp] theorem finish_status : s.finish.status = .success := rfl
@[simp] theorem finish_lit : s.finish.lit = Config.freeBits 8 4 s.fresh := rfl
@[simp] theorem finish_dict : s.finish.dict = Config.freeBits 8 5 s.fresh := rfl
@[simp] theorem finish_next : s.finish.next = Config.freeBits 13 6 s.fresh := rfl
@[simp] theorem finish_firstFill : s.finish.firstFill = Config.freeFlag 7 s.fresh := rfl
@[simp] theorem finish_mlen : s.finish.mlen = Config.freeBits 10 8 s.fresh := rfl
@[simp] theorem finish_mdist : s.finish.mdist = Config.freeBits 13 9 s.fresh := rfl
@[simp] theorem finish_sym : s.finish.sym = Config.freeBits 8 10 s.fresh := rfl
@[simp] theorem finish_code : s.finish.code = Config.freeBits 17 11 s.fresh := rfl
@[simp] theorem finish_firstc : s.finish.firstc = Config.freeBits 18 12 s.fresh := rfl
@[simp] theorem finish_index : s.finish.index = Config.freeBits 9 13 s.fresh := rfl
@[simp] theorem finish_clen : s.finish.clen = Config.freeBits 5 14 s.fresh := rfl
@[simp] theorem finish_left : s.finish.left = Config.freeBits 18 15 s.fresh := rfl
@[simp] theorem finish_tablesBuilt : s.finish.tablesBuilt = s.tablesBuilt := rfl
@[simp] theorem finish_nsym : s.finish.nsym = Config.freeBits 9 17 s.fresh := rfl
@[simp] theorem finish_lengths : s.finish.lengths = (List.range hw.maxSyms).map fun i => Config.freeBits 4 (100 + i) s.fresh := rfl
@[simp] theorem finish_offs : s.finish.offs = (List.range hw.maxBits).map fun i => Config.freeBits 9 (400 + i) s.fresh := rfl
@[simp] theorem finish_litTable : s.finish.litTable = s.litTable := rfl
@[simp] theorem finish_lenTable : s.finish.lenTable = s.lenTable := rfl
@[simp] theorem finish_distTable : s.finish.distTable = s.distTable := rfl
@[simp] theorem finish_win : s.finish.win = [] := rfl
@[simp] theorem finish_inq : s.finish.inq = Config.freeQueue s.fresh := rfl
@[simp] theorem finish_consumed : s.finish.consumed = s.consumed := rfl
@[simp] theorem finish_src : s.finish.src = s.src := rfl
@[simp] theorem finish_sink : s.finish.sink = s.sink := rfl
@[simp] theorem finish_bus : s.finish.bus = s.bus := rfl
@[simp] theorem finish_req : s.finish.req = s.req := rfl
@[simp] theorem finish_result : s.finish.result = s.result := rfl
@[simp] theorem finish_fresh : s.finish.fresh = s.fresh + 1 := rfl

@[simp] theorem newSession_bitbuf : s.newSession.bitbuf = 0 := rfl
@[simp] theorem newSession_bitcnt : s.newSession.bitcnt = 0 := rfl
@[simp] theorem newSession_state : s.newSession.state = .readHeader := rfl
@[simp] theorem newSession_status : s.newSession.status = .success := rfl
@[simp] theorem newSession_lit : s.newSession.lit = Config.freeBits 8 4 s.fresh := rfl
@[simp] theorem newSession_dict : s.newSession.dict = Config.freeBits 8 5 s.fresh := rfl
@[simp] theorem newSession_next : s.newSession.next = 0 := rfl
@[simp] theorem newSession_firstFill : s.newSession.firstFill = true := rfl
@[simp] theorem newSession_mlen : s.newSession.mlen = Config.freeBits 10 8 s.fresh := rfl
@[simp] theorem newSession_mdist : s.newSession.mdist = Config.freeBits 13 9 s.fresh := rfl
@[simp] theorem newSession_sym : s.newSession.sym = Config.freeBits 8 10 s.fresh := rfl
@[simp] theorem newSession_code : s.newSession.code = Config.freeBits 17 11 s.fresh := rfl
@[simp] theorem newSession_firstc : s.newSession.firstc = Config.freeBits 18 12 s.fresh := rfl
@[simp] theorem newSession_index : s.newSession.index = Config.freeBits 9 13 s.fresh := rfl
@[simp] theorem newSession_clen : s.newSession.clen = Config.freeBits 5 14 s.fresh := rfl
@[simp] theorem newSession_left : s.newSession.left = Config.freeBits 18 15 s.fresh := rfl
@[simp] theorem newSession_tablesBuilt : s.newSession.tablesBuilt = s.tablesBuilt := rfl
@[simp] theorem newSession_nsym : s.newSession.nsym = Config.freeBits 9 17 s.fresh := rfl
@[simp] theorem newSession_lengths : s.newSession.lengths = (List.range hw.maxSyms).map fun i => Config.freeBits 4 (100 + i) s.fresh := rfl
@[simp] theorem newSession_offs : s.newSession.offs = (List.range hw.maxBits).map fun i => Config.freeBits 9 (400 + i) s.fresh := rfl
@[simp] theorem newSession_litTable : s.newSession.litTable = s.litTable := rfl
@[simp] theorem newSession_lenTable : s.newSession.lenTable = s.lenTable := rfl
@[simp] theorem newSession_distTable : s.newSession.distTable = s.distTable := rfl
@[simp] theorem newSession_win : s.newSession.win = s.win := rfl
@[simp] theorem newSession_inq : s.newSession.inq = [] := rfl
@[simp] theorem newSession_consumed : s.newSession.consumed = 0 := rfl
@[simp] theorem newSession_src : s.newSession.src = s.src := rfl
@[simp] theorem newSession_sink : s.newSession.sink = s.sink := rfl
@[simp] theorem newSession_bus : s.newSession.bus = s.bus := rfl
@[simp] theorem newSession_req : s.newSession.req = s.req := rfl
@[simp] theorem newSession_result : s.newSession.result = s.result := rfl
@[simp] theorem newSession_fresh : s.newSession.fresh = s.fresh + 1 := rfl

@[simp] theorem hardReset_bitbuf : s.hardReset.bitbuf = State.reset.bitbuf := rfl
@[simp] theorem hardReset_bitcnt : s.hardReset.bitcnt = State.reset.bitcnt := rfl
@[simp] theorem hardReset_state : s.hardReset.state = State.reset.state := rfl
@[simp] theorem hardReset_status : s.hardReset.status = State.reset.status := rfl
@[simp] theorem hardReset_lit : s.hardReset.lit = State.reset.lit := rfl
@[simp] theorem hardReset_dict : s.hardReset.dict = State.reset.dict := rfl
@[simp] theorem hardReset_next : s.hardReset.next = State.reset.next := rfl
@[simp] theorem hardReset_firstFill : s.hardReset.firstFill = State.reset.firstFill := rfl
@[simp] theorem hardReset_mlen : s.hardReset.mlen = State.reset.mlen := rfl
@[simp] theorem hardReset_mdist : s.hardReset.mdist = State.reset.mdist := rfl
@[simp] theorem hardReset_sym : s.hardReset.sym = State.reset.sym := rfl
@[simp] theorem hardReset_code : s.hardReset.code = State.reset.code := rfl
@[simp] theorem hardReset_firstc : s.hardReset.firstc = State.reset.firstc := rfl
@[simp] theorem hardReset_index : s.hardReset.index = State.reset.index := rfl
@[simp] theorem hardReset_clen : s.hardReset.clen = State.reset.clen := rfl
@[simp] theorem hardReset_left : s.hardReset.left = State.reset.left := rfl
@[simp] theorem hardReset_tablesBuilt : s.hardReset.tablesBuilt = State.reset.tablesBuilt := rfl
@[simp] theorem hardReset_nsym : s.hardReset.nsym = State.reset.nsym := rfl
@[simp] theorem hardReset_lengths : s.hardReset.lengths = State.reset.lengths := rfl
@[simp] theorem hardReset_offs : s.hardReset.offs = State.reset.offs := rfl
@[simp] theorem hardReset_litTable : s.hardReset.litTable = State.reset.litTable := rfl
@[simp] theorem hardReset_lenTable : s.hardReset.lenTable = State.reset.lenTable := rfl
@[simp] theorem hardReset_distTable : s.hardReset.distTable = State.reset.distTable := rfl
@[simp] theorem hardReset_win : s.hardReset.win = State.reset.win := rfl
@[simp] theorem hardReset_inq : s.hardReset.inq = State.reset.inq := rfl
@[simp] theorem hardReset_consumed : s.hardReset.consumed = State.reset.consumed := rfl
@[simp] theorem hardReset_src : s.hardReset.src = s.src := rfl
@[simp] theorem hardReset_sink : s.hardReset.sink = s.sink := rfl
@[simp] theorem hardReset_bus : s.hardReset.bus = s.bus := rfl
@[simp] theorem hardReset_req : s.hardReset.req = State.reset.req := rfl
@[simp] theorem hardReset_result : s.hardReset.result = State.reset.result := rfl
@[simp] theorem hardReset_fresh : s.hardReset.fresh = s.fresh := rfl

@[simp] theorem setSym_bitbuf (k : Nat) : (s.setSym k).bitbuf = s.bitbuf := rfl
@[simp] theorem setSym_bitcnt (k : Nat) : (s.setSym k).bitcnt = s.bitcnt := rfl
@[simp] theorem setSym_state (k : Nat) : (s.setSym k).state = s.state := rfl
@[simp] theorem setSym_status (k : Nat) : (s.setSym k).status = s.status := rfl
@[simp] theorem setSym_lit (k : Nat) : (s.setSym k).lit = s.lit := rfl
@[simp] theorem setSym_dict (k : Nat) : (s.setSym k).dict = s.dict := rfl
@[simp] theorem setSym_next (k : Nat) : (s.setSym k).next = s.next := rfl
@[simp] theorem setSym_firstFill (k : Nat) : (s.setSym k).firstFill = s.firstFill := rfl
@[simp] theorem setSym_mlen (k : Nat) : (s.setSym k).mlen = s.mlen := rfl
@[simp] theorem setSym_mdist (k : Nat) : (s.setSym k).mdist = s.mdist := rfl
@[simp] theorem setSym_sym (k : Nat) : (s.setSym k).sym = BitVec.ofNat 8 k := rfl
@[simp] theorem setSym_code (k : Nat) : (s.setSym k).code = Config.freeBits 17 11 s.fresh := rfl
@[simp] theorem setSym_firstc (k : Nat) : (s.setSym k).firstc = Config.freeBits 18 12 s.fresh := rfl
@[simp] theorem setSym_index (k : Nat) : (s.setSym k).index = Config.freeBits 9 13 s.fresh := rfl
@[simp] theorem setSym_clen (k : Nat) : (s.setSym k).clen = Config.freeBits 5 14 s.fresh := rfl
@[simp] theorem setSym_left (k : Nat) : (s.setSym k).left = s.left := rfl
@[simp] theorem setSym_tablesBuilt (k : Nat) : (s.setSym k).tablesBuilt = s.tablesBuilt := rfl
@[simp] theorem setSym_nsym (k : Nat) : (s.setSym k).nsym = s.nsym := rfl
@[simp] theorem setSym_lengths (k : Nat) : (s.setSym k).lengths = s.lengths := rfl
@[simp] theorem setSym_offs (k : Nat) : (s.setSym k).offs = s.offs := rfl
@[simp] theorem setSym_litTable (k : Nat) : (s.setSym k).litTable = s.litTable := rfl
@[simp] theorem setSym_lenTable (k : Nat) : (s.setSym k).lenTable = s.lenTable := rfl
@[simp] theorem setSym_distTable (k : Nat) : (s.setSym k).distTable = s.distTable := rfl
@[simp] theorem setSym_win (k : Nat) : (s.setSym k).win = s.win := rfl
@[simp] theorem setSym_inq (k : Nat) : (s.setSym k).inq = s.inq := rfl
@[simp] theorem setSym_consumed (k : Nat) : (s.setSym k).consumed = s.consumed := rfl
@[simp] theorem setSym_src (k : Nat) : (s.setSym k).src = s.src := rfl
@[simp] theorem setSym_sink (k : Nat) : (s.setSym k).sink = s.sink := rfl
@[simp] theorem setSym_bus (k : Nat) : (s.setSym k).bus = s.bus := rfl
@[simp] theorem setSym_req (k : Nat) : (s.setSym k).req = s.req := rfl
@[simp] theorem setSym_result (k : Nat) : (s.setSym k).result = s.result := rfl
@[simp] theorem setSym_fresh (k : Nat) : (s.setSym k).fresh = s.fresh + 1 := rfl

@[simp] theorem withFixedTables_bitbuf : s.withFixedTables.bitbuf = s.bitbuf := rfl
@[simp] theorem withFixedTables_bitcnt : s.withFixedTables.bitcnt = s.bitcnt := rfl
@[simp] theorem withFixedTables_state : s.withFixedTables.state = s.state := rfl
@[simp] theorem withFixedTables_status : s.withFixedTables.status = s.status := rfl
@[simp] theorem withFixedTables_lit : s.withFixedTables.lit = s.lit := rfl
@[simp] theorem withFixedTables_dict : s.withFixedTables.dict = s.dict := rfl
@[simp] theorem withFixedTables_next : s.withFixedTables.next = s.next := rfl
@[simp] theorem withFixedTables_firstFill : s.withFixedTables.firstFill = s.firstFill := rfl
@[simp] theorem withFixedTables_mlen : s.withFixedTables.mlen = s.mlen := rfl
@[simp] theorem withFixedTables_mdist : s.withFixedTables.mdist = s.mdist := rfl
@[simp] theorem withFixedTables_sym : s.withFixedTables.sym = s.sym := rfl
@[simp] theorem withFixedTables_code : s.withFixedTables.code = s.code := rfl
@[simp] theorem withFixedTables_firstc : s.withFixedTables.firstc = s.firstc := rfl
@[simp] theorem withFixedTables_index : s.withFixedTables.index = s.index := rfl
@[simp] theorem withFixedTables_clen : s.withFixedTables.clen = s.clen := rfl
@[simp] theorem withFixedTables_left : s.withFixedTables.left = s.left := rfl
@[simp] theorem withFixedTables_tablesBuilt : s.withFixedTables.tablesBuilt = true := rfl
@[simp] theorem withFixedTables_nsym : s.withFixedTables.nsym = s.nsym := rfl
@[simp] theorem withFixedTables_lengths : s.withFixedTables.lengths = s.lengths := rfl
@[simp] theorem withFixedTables_offs : s.withFixedTables.offs = s.offs := rfl
@[simp] theorem withFixedTables_litTable : s.withFixedTables.litTable = fixedLit := rfl
@[simp] theorem withFixedTables_lenTable : s.withFixedTables.lenTable = fixedLen := rfl
@[simp] theorem withFixedTables_distTable : s.withFixedTables.distTable = fixedDist := rfl
@[simp] theorem withFixedTables_win : s.withFixedTables.win = s.win := rfl
@[simp] theorem withFixedTables_inq : s.withFixedTables.inq = s.inq := rfl
@[simp] theorem withFixedTables_consumed : s.withFixedTables.consumed = s.consumed := rfl
@[simp] theorem withFixedTables_src : s.withFixedTables.src = s.src := rfl
@[simp] theorem withFixedTables_sink : s.withFixedTables.sink = s.sink := rfl
@[simp] theorem withFixedTables_bus : s.withFixedTables.bus = s.bus := rfl
@[simp] theorem withFixedTables_req : s.withFixedTables.req = s.req := rfl
@[simp] theorem withFixedTables_result : s.withFixedTables.result = s.result := rfl
@[simp] theorem withFixedTables_fresh : s.withFixedTables.fresh = s.fresh := rfl

end Sys2Proof.Machine
end

