-- ==== Sys2Proof/Laws/Res.lean ====
section
/-! SUPPORT. The small lemmas of `Res`, `runFetched` and the values of the configuration. -/

namespace Sys2Proof.Machine

variable {α β : Type}

@[simp] theorem Res.bind_ok (a : α) (s : State) (f : α → State → Res β) :
    (Res.ok a s).bind f = f a s := rfl
@[simp] theorem Res.bind_raised (k : ErrorKind) (s : State) (f : α → State → Res β) :
    (Res.raised k s : Res α).bind f = .raised k s := rfl
@[simp] theorem Res.bind_fault (x : Fault) (f : α → State → Res β) :
    (Res.fault x : Res α).bind f = .fault x := rfl
@[simp] theorem Res.bind_refused (x : Refusal) (f : α → State → Res β) :
    (Res.refused x : Res α).bind f = .refused x := rfl

@[simp] theorem Res.toOutcome_ok (a : Unit) (s : State) : (Res.ok a s).toOutcome = .next s := rfl
@[simp] theorem Res.toOutcome_raised (k : ErrorKind) (s : State) :
    (Res.raised k s).toOutcome = .next (s.raise k) := rfl
@[simp] theorem Res.toOutcome_fault (x : Fault) : (Res.fault x).toOutcome = .fault x := rfl
@[simp] theorem Res.toOutcome_refused (x : Refusal) : (Res.refused x).toOutcome = .refused x := rfl

@[simp] theorem runFetched_ok (i : Instr) (s : State) : runFetched (.ok i s) = exec i s := rfl
@[simp] theorem runFetched_raised (k : ErrorKind) (s : State) :
    runFetched (.raised k s) = .next (s.raise k) := rfl
@[simp] theorem runFetched_fault (x : Fault) : runFetched (.fault x) = .fault x := rfl
@[simp] theorem runFetched_refused (x : Refusal) : runFetched (.refused x) = .refused x := rfl

/-- What a `bind` that answers a value came from. -/
theorem Res.bind_eq_ok {r : Res α} {f : α → State → Res β} {b : β} {t : State} :
    r.bind f = .ok b t ↔ ∃ a s, r = .ok a s ∧ f a s = .ok b t := by
  cases r <;> simp

/-- What a `bind` that raises came from. -/
theorem Res.bind_eq_raised {r : Res α} {f : α → State → Res β} {k : ErrorKind} {t : State} :
    r.bind f = .raised k t ↔
      r = .raised k t ∨ ∃ a s, r = .ok a s ∧ f a s = .raised k t := by
  cases r <;> simp

/-- What an instruction that answers a next state came from. -/
theorem Res.toOutcome_eq_next {r : Res Unit} {t : State} :
    r.toOutcome = .next t ↔
      r = .ok () t ∨ ∃ k s, r = .raised k s ∧ t = s.raise k := by
  cases r <;> simp [eq_comm]

@[simp] theorem hw_winSize : hw.winSize = 4096 := rfl
@[simp] theorem hw_maxTake : hw.maxTake = 16 := rfl
@[simp] theorem hw_maxBits : hw.maxBits = 16 := rfl
@[simp] theorem hw_endLen : hw.endLen = 519 := rfl
@[simp] theorem hw_dictMin : hw.dictMin = 4 := rfl
@[simp] theorem hw_dictMax : hw.dictMax = 6 := rfl
@[simp] theorem hw_distSyms : hw.distSyms = 64 := rfl
@[simp] theorem hw_lenSyms : hw.lenSyms = 16 := rfl
@[simp] theorem hw_litSyms : hw.litSyms = 256 := rfl

end Sys2Proof.Machine
end

