-- ==== Sys2Proof/Laws/Memory.lean ====
section
/-! SUPPORT. The laws of the window memory: a byte read is the last one written there, a write leaves
every other address alone, and every write keeps the canonical form. -/

namespace Sys2Proof.Machine

@[simp] theorem read_nil (a : Nat) : Memory.read [] a = none := rfl

@[simp] theorem read_write_same (m : Memory) (a : Nat) (b : Byte) :
    (Memory.write m a b).read a = some b := by
  induction m with
  | nil => simp [Memory.write, Memory.read]
  | cons c m ih =>
    obtain ⟨k, v⟩ := c
    simp only [Memory.write]
    split
    · simp [Memory.read]
    · split
      · simp [Memory.read]
      · have : k ≠ a := by omega
        simp [Memory.read, this, ih]

theorem read_write_other (m : Memory) {a a' : Nat} (b : Byte) (h : a' ≠ a) :
    (Memory.write m a b).read a' = m.read a' := by
  induction m with
  | nil => simp [Memory.write, Memory.read, h.symm]
  | cons c m ih =>
    obtain ⟨k, v⟩ := c
    simp only [Memory.write]
    split
    · simp [Memory.read, h.symm]
    · split
      · rename_i _ hk; subst hk; simp [Memory.read, h.symm]
      · simp only [Memory.read, ih]

theorem read_write (m : Memory) (a a' : Nat) (b : Byte) :
    (Memory.write m a b).read a' = if a' = a then some b else m.read a' := by
  split
  · rename_i h; subst h; simp
  · rename_i h; exact read_write_other m b h

theorem wfFrom_write {lo : Nat} {m : Memory} (hm : Memory.wfFrom lo m = true) {a : Nat}
    (hlo : lo ≤ a) (ha : a < hw.winSize) (b : Byte) : Memory.wfFrom lo (Memory.write m a b) = true := by
  induction m generalizing lo with
  | nil => simp only [Memory.write, Memory.wfFrom]; simp_all
  | cons c m ih =>
    obtain ⟨k, v⟩ := c
    simp only [Memory.wfFrom, Bool.and_eq_true, decide_eq_true_eq] at hm
    simp only [Memory.write]
    split
    · simp only [Memory.wfFrom, Bool.and_eq_true, decide_eq_true_eq]
      exact ⟨⟨hlo, ha⟩, ⟨by omega, hm.1.2⟩, hm.2⟩
    · split
      · rename_i hk; subst hk
        simp only [Memory.wfFrom, Bool.and_eq_true, decide_eq_true_eq]
        exact hm
      · simp only [Memory.wfFrom, Bool.and_eq_true, decide_eq_true_eq]
        exact ⟨hm.1, ih hm.2 (by omega)⟩

/-- A write inside the window keeps the canonical form. -/
theorem wf_write {m : Memory} (hm : m.wf = true) {a : Nat} (ha : a < hw.winSize) (b : Byte) :
    (Memory.write m a b).wf = true := wfFrom_write hm (Nat.zero_le a) ha b

/-- Every store of the machine keeps the canonical form (its address is reduced, R64). -/
theorem writeWin_wf {s : State} (h : s.win.wf = true) (a : Nat) (b : Byte) :
    (writeWin a b s).win.wf = true := wf_write h (Nat.mod_lt _ (by decide)) b

/-- Two memories in canonical form that read the same everywhere are the same list. -/
theorem wfFrom_ext {lo : Nat} {m m' : Memory} (hm : Memory.wfFrom lo m = true)
    (hm' : Memory.wfFrom lo m' = true) (h : ∀ a, m.read a = m'.read a) : m = m' := by
  have below : ∀ (m : Memory) (lo a : Nat), Memory.wfFrom lo m = true → a < lo → m.read a = none := by
    intro m
    induction m with
    | nil => intros; rfl
    | cons c m ih =>
      intro lo a hm ha
      obtain ⟨k, v⟩ := c
      simp only [Memory.wfFrom, Bool.and_eq_true, decide_eq_true_eq] at hm
      have : k ≠ a := by omega
      simp only [Memory.read, this, if_false]
      exact ih (k + 1) a hm.2 (by omega)
  induction m generalizing lo m' with
  | nil =>
    cases m' with
    | nil => rfl
    | cons c m' => obtain ⟨k, v⟩ := c; have := h k; simp [Memory.read] at this
  | cons c m ih =>
    obtain ⟨k, v⟩ := c
    cases m' with
    | nil => have := h k; simp [Memory.read] at this
    | cons c' m' =>
      obtain ⟨k', v'⟩ := c'
      simp only [Memory.wfFrom, Bool.and_eq_true, decide_eq_true_eq] at hm hm'
      have hk : k = k' := by
        rcases Nat.lt_trichotomy k k' with hlt | heq | hgt
        · have := h k
          have h0 := below m' (k' + 1) k hm'.2 (by omega)
          have hne : k' ≠ k := by omega
          simp [Memory.read, hne, h0] at this
        · exact heq
        · have := h k'
          have h0 := below m (k + 1) k' hm.2 (by omega)
          have hne : k ≠ k' := by omega
          simp [Memory.read, hne, h0] at this
      subst hk
      have hv : v = v' := by have := h k; simpa [Memory.read] using this
      subst hv
      congr 1
      refine ih hm.2 hm'.2 fun a => ?_
      by_cases ha : k = a
      · subst ha
        rw [below m (k + 1) k hm.2 (by omega), below m' (k + 1) k hm'.2 (by omega)]
      · have := h a
        simpa [Memory.read, ha] using this

/-- Reading a run that is all written gives its bytes, in ascending order. -/
theorem readRun_eq_some {m : Memory} {n : Nat} : ∀ {a : Nat},
    (∀ i < n, (m.read ((a + i) % hw.winSize)).isSome) →
    ∃ bs, m.readRun a n = some bs ∧ bs.length = n ∧
      ∀ i < n, m.read ((a + i) % hw.winSize) = bs[i]? := by
  induction n with
  | zero => intro a _; exact ⟨[], rfl, rfl, by simp⟩
  | succ n ih =>
    intro a h
    obtain ⟨b, hb⟩ := Option.isSome_iff_exists.mp (h 0 (Nat.succ_pos n))
    obtain ⟨bs, hbs, hl, hr⟩ := ih (a := a + 1) fun i hi => by
      have := h (i + 1) (by omega); rwa [show a + 1 + i = a + (i + 1) by omega]
    refine ⟨b :: bs, ?_, by simp [hl], fun i hi => ?_⟩
    · rw [Nat.add_zero] at hb; simp only [Memory.readRun, hb, hbs]
    · cases i with
      | zero => simpa using hb
      | succ i => have := hr i (by omega); simpa [show a + 1 + i = a + (i + 1) by omega] using this

end Sys2Proof.Machine
end

