-- ==== Sys2Proof/Laws/Bits.lean ====
section
/-! SUPPORT. The laws of raw bit groups: splitting, joining, and that values and bits convert back and
forth. -/

namespace Sys2Proof

@[simp] theorem length_natBits (n v : Nat) : (natBits n v).length = n := by
  induction n generalizing v with
  | zero => rfl
  | succ n ih => simp [natBits, ih]

@[simp] theorem length_byteBits (b : Byte) : (byteBits b).length = 8 := length_natBits 8 _

theorem bitsToNat_natBits (n v : Nat) : bitsToNat (natBits n v) = v % 2 ^ n := by
  induction n generalizing v with
  | zero => simp [natBits, bitsToNat, Nat.mod_one]
  | succ n ih =>
    simp only [natBits, bitsToNat, ih]
    rw [Nat.pow_succ', Nat.mod_mul]
    rcases Nat.mod_two_eq_zero_or_one v with h | h <;> simp [h]

theorem natBits_append (n m v : Nat) : natBits (n + m) v = natBits n v ++ natBits m (v / 2 ^ n) := by
  induction n generalizing v with
  | zero => simp [natBits]
  | succ n ih =>
    rw [show n + 1 + m = (n + m) + 1 by omega]
    simp only [natBits, ih, List.cons_append, Nat.div_div_eq_div_mul, Nat.pow_succ']

theorem natBits_mod (n v : Nat) : natBits n (v % 2 ^ n) = natBits n v := by
  induction n generalizing v with
  | zero => rfl
  | succ n ih =>
    simp only [natBits]
    rw [Nat.pow_succ', Nat.mod_mul_right_mod, Nat.mod_mul_right_div_self, ih]

theorem bitsToNat_append (as bs : Bits) :
    bitsToNat (as ++ bs) = bitsToNat as + 2 ^ as.length * bitsToNat bs := by
  induction as with
  | nil => simp [bitsToNat]
  | cons a as ih => simp only [List.cons_append, bitsToNat, ih, List.length_cons, Nat.pow_succ']; ring

theorem bitsToNat_lt (bs : Bits) : bitsToNat bs < 2 ^ bs.length := by
  induction bs with
  | nil => simp [bitsToNat]
  | cons b bs ih =>
    simp only [bitsToNat, List.length_cons, Nat.pow_succ']
    cases b <;> simp <;> omega

theorem natBits_bitsToNat (bs : Bits) : natBits bs.length (bitsToNat bs) = bs := by
  induction bs with
  | nil => rfl
  | cons b bs ih =>
    simp only [List.length_cons, natBits, bitsToNat]
    cases b
    · simp [ih]
    · simp [Nat.add_mod, show (1 + 2 * bitsToNat bs) / 2 = bitsToNat bs by omega, ih]

/-- A byte loaded above the valid bits joins them (the barrel shift of R131). -/
theorem or_shift_eq {val b c : Nat} (h : val < 2 ^ c) : val ||| (b <<< c) = val + b * 2 ^ c := by
  rw [Nat.or_comm, Nat.shiftLeft_eq, Nat.mul_comm, ← Nat.two_pow_add_eq_or_of_lt h]; ring

end Sys2Proof
end

