-- ==== Sys2Proof/Laws/BitReader.lean ====
section
/-! SUPPORT. What `fetchByte` and `takeBits` do, said once in terms of the stream ahead: with enough
bits they answer the next ones and advance by exactly that many; without, they raise `EndOfInput`. -/

namespace Sys2Proof.Machine

/-! ### Frames -/

theorem SameButReader.refl (s : State) : SameButReader s s := rfl

theorem SameButReader.trans {s t u : State} (h : SameButReader s t) (h' : SameButReader t u) :
    SameButReader s u := by
  unfold SameButReader at *; rw [h']; rw [h]

@[simp] theorem pushesOf_append (ts us : List Transaction) :
    pushesOf (ts ++ us) = pushesOf ts ++ pushesOf us := by
  induction ts with
  | nil => rfl
  | cons t ts ih => cases t <;> simp [pushesOf, ih]

/-! ### fetchByte -/

/-- The bytes not yet in the bit buffer. -/
def State.bytesAhead (s : State) : List Byte := s.inq ++ upcoming s.src

/-- What `fetchByte` changes (R132). -/
def FetchFrame (s t : State) : Prop :=
  t = { s with inq := t.inq, src := t.src, bus := t.bus, consumed := s.consumed + 1 } ∧
  t.pushes = s.pushes

theorem fetchByte_ok {s : State} {b : Byte} {rest : List Byte} (h : s.bytesAhead = b :: rest) :
    ∃ t, fetchByte s = .ok b t ∧ t.bytesAhead = rest ∧ FetchFrame s t := by
  unfold State.bytesAhead at h
  unfold fetchByte
  match hq : s.inq with
  | c :: q =>
    simp only [hq, List.cons_append, List.cons.injEq] at h
    exact ⟨{ s with inq := q, consumed := s.consumed + 1 }, by simp only [h.1],
      by simpa [State.bytesAhead] using h.2, rfl, rfl⟩
  | [] =>
    simp only [hq, List.nil_append] at h
    match hs : s.src with
    | [] => simp [hs, upcoming] at h
    | [] :: cs => simp [hs, upcoming] at h
    | (c :: q) :: cs =>
      simp only [hs, upcoming, List.cons_append, List.cons.injEq] at h
      simp only [pull, hs]
      refine ⟨_, by rw [h.1], by simpa [State.bytesAhead] using h.2, rfl, ?_⟩
      simp [State.pushes, pushesOf]

theorem fetchByte_end {s : State} (h : s.bytesAhead = []) :
    fetchByte s = .raised .endOfInput { s with bus := s.bus ++ [.pull []] } := by
  unfold State.bytesAhead at h
  obtain ⟨hq, hu⟩ := List.append_eq_nil_iff.mp h
  unfold fetchByte
  rw [hq]
  match hs : s.src with
  | [] => simp [pull, hs, hq]
  | [] :: cs => simp [pull, hs, hq]
  | (c :: q) :: cs => simp [hs, upcoming] at hu

/-! ### The refill loop -/

/-- The stream ahead when `val` stands for the bit buffer. -/
def streamAhead (val : Nat) (s : State) : Bits :=
  natBits s.bitcnt.toNat val ++ s.bytesAhead.flatMap byteBits

theorem bits_eq (s : State) : s.bits = streamAhead s.bitbuf.toNat s := rfl

theorem length_flatMap_byteBits (bs : List Byte) : (bs.flatMap byteBits).length = 8 * bs.length := by
  induction bs with
  | nil => rfl
  | cons b bs ih => simp [ih]; omega

theorem length_streamAhead (val : Nat) (s : State) :
    (streamAhead val s).length = s.bitcnt.toNat + 8 * s.bytesAhead.length := by
  rw [streamAhead, List.length_append, length_natBits, length_flatMap_byteBits]

/-- What the refill loop changes: the reader but for `bitbuf`, and no push. -/
def RefillFrame (s t : State) : Prop :=
  t = { s with bitcnt := t.bitcnt, inq := t.inq, src := t.src, bus := t.bus, consumed := t.consumed } ∧
  t.pushes = s.pushes ∧ t.spos = s.spos

theorem RefillFrame.refl (s : State) : RefillFrame s s := ⟨rfl, rfl, rfl⟩

theorem RefillFrame.trans {s t u : State} (h : RefillFrame s t) (h' : RefillFrame t u) :
    RefillFrame s u := by
  refine ⟨?_, h'.2.1.trans h.2.1, h'.2.2.trans h.2.2⟩
  have h1 := h'.1
  rw [h.1] at h1
  exact h1

/-- One load: the byte joins the valid bits and the stream ahead is the same. -/
theorem load_step {s t : State} {val : BitVec 23} {b : Byte} {rest : List Byte}
    (hv : val.toNat < 2 ^ s.bitcnt.toNat) (hc : s.bitcnt.toNat ≤ 15)
    (hb : s.bytesAhead = b :: rest) (ht : t.bytesAhead = rest) (hf : FetchFrame s t) :
    let val' := val ||| (b.setWidth 23 <<< t.bitcnt.toNat)
    let t' := { t with bitcnt := t.bitcnt + 8 }
    t'.bitcnt.toNat = s.bitcnt.toNat + 8 ∧ val'.toNat < 2 ^ t'.bitcnt.toNat ∧
      streamAhead val'.toNat t' = streamAhead val.toNat s ∧ RefillFrame s t' := by
  have hcnt : t.bitcnt = s.bitcnt := by rw [hf.1]
  have hshift : t.bitcnt.toNat = s.bitcnt.toNat := by rw [hcnt]
  have hb8 := b.isLt
  have hcnt' : (t.bitcnt + 8).toNat = s.bitcnt.toNat + 8 := by
    rw [hcnt, BitVec.toNat_add]; simp; omega
  have hpow : b.toNat * 2 ^ s.bitcnt.toNat < 2 ^ 23 := by
    calc b.toNat * 2 ^ s.bitcnt.toNat < 2 ^ 8 * 2 ^ s.bitcnt.toNat :=
          Nat.mul_lt_mul_of_pos_right hb8 (Nat.two_pow_pos _)
      _ = 2 ^ (8 + s.bitcnt.toNat) := (Nat.pow_add 2 8 _).symm
      _ ≤ 2 ^ 23 := Nat.pow_le_pow_right (by decide) (by omega)
  have hval : (val ||| (b.setWidth 23 <<< s.bitcnt.toNat)).toNat =
      val.toNat + b.toNat * 2 ^ s.bitcnt.toNat := by
    rw [BitVec.toNat_or, BitVec.toNat_shiftLeft, BitVec.toNat_setWidth,
      Nat.mod_eq_of_lt (by omega : b.toNat < 2 ^ 23),
      Nat.mod_eq_of_lt (by rwa [Nat.shiftLeft_eq]), or_shift_eq hv]
  rw [← hshift] at hval
  refine ⟨hcnt', ?_, ?_, ?_, ?_, ?_⟩
  · show _ < 2 ^ (t.bitcnt + 8).toNat
    rw [hval, hcnt', hshift, Nat.pow_add]
    have : (b.toNat + 1) * 2 ^ s.bitcnt.toNat ≤ 2 ^ 8 * 2 ^ s.bitcnt.toNat :=
      Nat.mul_le_mul_right _ (by omega)
    rw [Nat.add_mul, Nat.one_mul] at this
    rw [Nat.mul_comm (2 ^ s.bitcnt.toNat)]
    omega
  · show natBits (t.bitcnt + 8).toNat _ ++ t.bytesAhead.flatMap byteBits = _
    rw [hval, hcnt', hshift, natBits_append, streamAhead, hb, ht, List.flatMap_cons, List.append_assoc,
      byteBits]
    have h1 : natBits s.bitcnt.toNat (val.toNat + b.toNat * 2 ^ s.bitcnt.toNat) =
        natBits s.bitcnt.toNat val.toNat := by
      rw [← natBits_mod, Nat.add_mul_mod_self_right, natBits_mod]
    have h2 : (val.toNat + b.toNat * 2 ^ s.bitcnt.toNat) / 2 ^ s.bitcnt.toNat = b.toNat := by
      rw [Nat.add_mul_div_right _ _ (Nat.two_pow_pos _), Nat.div_eq_of_lt hv, Nat.zero_add]
    rw [h1, h2]
  · have := hf.1; rw [this]
  · exact hf.2
  · have h3 : t.consumed = s.consumed + 1 := by rw [hf.1]
    simp only [State.spos, hcnt', h3]; omega

theorem refill_ok : ∀ (fuel : Nat) {n : Nat} {val : BitVec 23} {s : State},
    val.toNat < 2 ^ s.bitcnt.toNat → n ≤ 16 → n ≤ s.bitcnt.toNat + 8 * fuel →
    n ≤ (streamAhead val.toNat s).length →
    ∃ val' t, refill fuel n val s = .ok val' t ∧ val'.toNat < 2 ^ t.bitcnt.toNat ∧
      n ≤ t.bitcnt.toNat ∧ (t.bitcnt = s.bitcnt ∨ t.bitcnt.toNat ≤ n + 7) ∧
      streamAhead val'.toNat t = streamAhead val.toNat s ∧ RefillFrame s t := by
  intro fuel
  induction fuel with
  | zero =>
    intro n val s hv _ hfuel _
    exact ⟨val, s, rfl, hv, by omega, .inl rfl, rfl, .refl s⟩
  | succ fuel ih =>
    intro n val s hv hn hfuel hlen
    unfold refill
    by_cases hlt : s.bitcnt.toNat < n
    · rw [length_streamAhead] at hlen
      obtain ⟨b, rest, hb⟩ := List.exists_cons_of_length_pos (l := s.bytesAhead) (by omega)
      obtain ⟨t, hfetch, ht, hf⟩ := fetchByte_ok hb
      obtain ⟨hcnt, hv', hstream, hframe⟩ := load_step hv (by omega) hb ht hf
      obtain ⟨val', u, hu, huv, hun, hu7, hus, huf⟩ := ih (s := { t with bitcnt := t.bitcnt + 8 })
        hv' hn (by omega) (by rw [hstream, length_streamAhead]; omega)
      refine ⟨val', u, ?_, huv, hun, .inr ?_, hus.trans hstream, hframe.trans huf⟩
      · rw [if_pos hlt, hfetch, Res.bind_ok, hu]
      · rcases hu7 with h | h
        · rw [h]; omega
        · exact h
    · rw [if_neg hlt]
      exact ⟨val, s, rfl, hv, by omega, .inl rfl, rfl, .refl s⟩

theorem refill_end : ∀ (fuel : Nat) {n : Nat} {val : BitVec 23} {s : State},
    val.toNat < 2 ^ s.bitcnt.toNat → n ≤ 16 → n ≤ s.bitcnt.toNat + 8 * fuel →
    (streamAhead val.toNat s).length < n →
    ∃ t, refill fuel n val s = .raised .endOfInput t ∧ SameButReader s t ∧ t.pushes = s.pushes := by
  intro fuel
  induction fuel with
  | zero => intro n val s _ _ hfuel hlen; rw [length_streamAhead] at hlen; omega
  | succ fuel ih =>
    intro n val s hv hn hfuel hlen
    have hlen' := hlen
    rw [length_streamAhead] at hlen
    unfold refill
    rw [if_pos (by omega)]
    match hb : s.bytesAhead with
    | [] =>
      rw [fetchByte_end hb]
      exact ⟨_, rfl, rfl, by simp [State.pushes, pushesOf]⟩
    | b :: rest =>
      obtain ⟨t, hfetch, ht, hf⟩ := fetchByte_ok hb
      obtain ⟨hcnt, hv', hstream, hframe⟩ := load_step hv (by omega) hb ht hf
      obtain ⟨u, hu, huf, hup⟩ := ih (s := { t with bitcnt := t.bitcnt + 8 })
        hv' hn (by omega) (by rw [hstream]; exact hlen')
      refine ⟨u, ?_, ?_, hup.trans hframe.2.1⟩
      · rw [hfetch, Res.bind_ok, hu]
      · have h1 : SameButReader s { t with bitcnt := t.bitcnt + 8 } := by
          unfold SameButReader; have := hf.1; rw [this]
        exact h1.trans huf

/-! ### takeBits -/

/-- `takeBits(n)` with `n` bits ahead: it answers them, least significant first, and advances by
exactly `n` (R131, R136, R139). -/
theorem takeBits_ok {n : Nat} {s : State} (hr : ReaderOk s) (hn : n ≤ 16) (hlen : n ≤ s.bits.length) :
    ∃ t, takeBits n s = .ok (bitsToNat (s.bits.take n)) t ∧ t.bits = s.bits.drop n ∧ ReaderOk t ∧
      SameButReader s t ∧ t.pushes = s.pushes ∧ t.spos = s.spos + n := by
  obtain ⟨val, t, ht, hv, hnt, h7, hs, hf⟩ := refill_ok 2 hr.2 hn (by omega) hlen
  rw [← bits_eq] at hs
  have hcnt : (t.bitcnt - BitVec.ofNat 5 n).toNat = t.bitcnt.toNat - n := by
    rw [BitVec.toNat_sub_of_le]
    · simp; omega
    · rw [BitVec.le_def]; simp; omega
  have hsplit : s.bits = natBits n val.toNat ++
      (natBits (t.bitcnt.toNat - n) (val.toNat / 2 ^ n) ++ t.bytesAhead.flatMap byteBits) := by
    rw [← hs, streamAhead, ← List.append_assoc, ← natBits_append, Nat.add_sub_cancel' hnt]
  have hshift : (val >>> n).toNat = val.toNat / 2 ^ n := by
    rw [BitVec.toNat_ushiftRight, Nat.shiftRight_eq_div_pow]
  refine ⟨{ t with bitbuf := val >>> n, bitcnt := t.bitcnt - BitVec.ofNat 5 n },
    ?_, ?_, ⟨?_, ?_⟩, ?_, hf.2.1, ?_⟩
  · unfold takeBits
    rw [if_neg (by simp; omega), ht, Res.bind_ok, Nat.and_two_pow_sub_one_eq_mod, hsplit,
      List.take_left' (length_natBits n _), bitsToNat_natBits]
  · rw [hsplit, List.drop_left' (length_natBits n _)]
    show natBits (t.bitcnt - BitVec.ofNat 5 n).toNat (val >>> n).toNat ++ _ = _
    rw [hcnt, hshift]; rfl
  · show (t.bitcnt - BitVec.ofNat 5 n).toNat ≤ 7
    rw [hcnt]
    rcases h7 with h | h
    · rw [h]; have := hr.1; omega
    · omega
  · show (val >>> n).toNat < 2 ^ (t.bitcnt - BitVec.ofNat 5 n).toNat
    rw [hcnt, hshift, Nat.div_lt_iff_lt_mul (Nat.two_pow_pos _), ← Nat.pow_add,
      Nat.sub_add_cancel hnt]
    exact hv
  · have := hf.1; unfold SameButReader; rw [this]
  · have := hf.2.2
    simp only [State.spos, hcnt] at this ⊢
    omega

/-- `takeBits(n)` with fewer than `n` bits ahead raises `EndOfInput` (R134). -/
theorem takeBits_end {n : Nat} {s : State} (hr : ReaderOk s) (hn : n ≤ 16) (hlen : s.bits.length < n) :
    ∃ t, takeBits n s = .raised .endOfInput t ∧ SameButReader s t ∧ t.pushes = s.pushes := by
  obtain ⟨t, ht, hf, hp⟩ := refill_end 2 hr.2 hn (by omega) hlen
  exact ⟨t, by unfold takeBits; rw [if_neg (by simp; omega), ht, Res.bind_raised], hf, hp⟩

/-- One bit at a time (R172). -/
theorem takeBits_one {s : State} (hr : ReaderOk s) {b : Bool} {rest : Bits} (h : s.bits = b :: rest) :
    ∃ t, takeBits 1 s = .ok b.toNat t ∧ t.bits = rest ∧ ReaderOk t ∧
      SameButReader s t ∧ t.pushes = s.pushes ∧ t.spos = s.spos + 1 := by
  obtain ⟨t, ht, hb, h⟩ := takeBits_ok hr (n := 1) (by decide) (by simp [h])
  refine ⟨t, ?_, ?_, h⟩
  · rw [ht]; simp [‹s.bits = _›, bitsToNat]
  · simp [hb, ‹s.bits = _›]

end Sys2Proof.Machine
end

