-- ==== Sys2Proof/Laws/Window.lean ====
section
/-! SUPPORT. What the window operations can do, said once: `push`, `flush`, `wrap`, `putByte` and the
copy loop. -/

namespace Sys2Proof.Machine

/-- `s` and `t` differ only in what the sliding window and its output may change (R190): the window,
`next`, `first_fill`, `mlen` and the Output Sink. -/
def SameButWindow (s t : State) : Prop :=
  t = { s with win := t.win, next := t.next, firstFill := t.firstFill, mlen := t.mlen,
               sink := t.sink, bus := t.bus }

theorem SameButWindow.refl (s : State) : SameButWindow s s := rfl

theorem SameButWindow.trans {s t u : State} (h : SameButWindow s t) (h' : SameButWindow t u) :
    SameButWindow s u := by
  unfold SameButWindow at *; rw [h']; rw [h]

theorem push_eq (bytes : List Byte) (s : State) :
    push bytes s = (s.nextAnswer,
      { s with sink := s.sink.tail, bus := s.bus ++ [.push bytes s.nextAnswer] }) := by
  unfold push State.nextAnswer
  cases h : s.sink <;> simp

theorem push_pushes (bytes : List Byte) (s : State) :
    (push bytes s).2.pushes = s.pushes ++ [(bytes, s.nextAnswer)] := by
  simp [push_eq, State.pushes, pushesOf]

@[simp] theorem flush_empty {s : State} (h : s.next.toNat = 0) : flush s = .ok () s := by
  simp [flush, h]

/-- A flush of written bytes is one push of them, and the answer decides how it ends (R196, R254). -/
theorem flush_push {s : State} {bytes : List Byte} (h : s.next.toNat ≠ 0)
    (hr : s.win.readRun 0 s.next.toNat = some bytes) :
    flush s = if s.nextAnswer = true then .raised .outputError (push bytes s).2
      else .ok () (push bytes s).2 := by
  rw [flush, if_neg h, readRun, hr]
  simp only [Res.bind_ok, push_eq]
  cases s.nextAnswer <;> simp

/-- Whatever a flush answers, it came from one of these (R196). -/
theorem flush_cases {s : State} :
    (s.next.toNat = 0 ∧ flush s = .ok () s) ∨
    (s.next.toNat ≠ 0 ∧ s.win.readRun 0 s.next.toNat = none ∧
      flush s = .fault .unwrittenWindowByte) ∨
    (∃ bytes, s.next.toNat ≠ 0 ∧ s.win.readRun 0 s.next.toNat = some bytes ∧
      flush s = if s.nextAnswer = true then .raised .outputError (push bytes s).2
        else .ok () (push bytes s).2) := by
  by_cases h : s.next.toNat = 0
  · exact .inl ⟨h, flush_empty h⟩
  · match hr : s.win.readRun 0 s.next.toNat with
    | none => exact .inr (.inl ⟨h, rfl, by rw [flush, if_neg h, readRun, hr]; rfl⟩)
    | some bytes => exact .inr (.inr ⟨bytes, h, rfl, flush_push h hr⟩)

theorem flush_frame {s t : State} (h : flush s = .ok () t) :
    t = { s with sink := t.sink, bus := t.bus } := by
  rcases flush_cases (s := s) with ⟨_, h1⟩ | ⟨_, _, h1⟩ | ⟨bytes, _, _, h1⟩
  · rw [h1] at h; cases h; rfl
  · rw [h1] at h; cases h
  · rw [h1] at h
    split at h <;> cases h
    rw [push_eq]

theorem flush_raised {s t : State} {k : ErrorKind} (h : flush s = .raised k t) :
    k = .outputError ∧ t = { s with sink := t.sink, bus := t.bus } ∧
      ∃ bytes, s.win.readRun 0 s.next.toNat = some bytes ∧
        t.bus = s.bus ++ [.push bytes true] := by
  rcases flush_cases (s := s) with ⟨_, h1⟩ | ⟨_, _, h1⟩ | ⟨bytes, _, hb, h1⟩
  · rw [h1] at h; cases h
  · rw [h1] at h; cases h
  · rw [h1] at h
    split at h
    · rename_i ha
      cases h
      exact ⟨rfl, by rw [push_eq], bytes, hb, by rw [push_eq, ha]⟩
    · cases h

/-- A flush of written bytes never faults or is refused. -/
theorem flush_completes {s : State} (h : ∀ a < s.next.toNat, (s.win.read (a % hw.winSize)).isSome) :
    (∃ t, flush s = .ok () t) ∨ ∃ t, flush s = .raised .outputError t := by
  rcases flush_cases (s := s) with ⟨_, h1⟩ | ⟨_, hn, _⟩ | ⟨bytes, _, _, h1⟩
  · exact .inl ⟨s, h1⟩
  · obtain ⟨bs, hbs, _⟩ := readRun_eq_some (m := s.win) (n := s.next.toNat) (a := 0)
      (fun i hi => by rw [Nat.zero_add]; exact h i hi)
    rw [hbs] at hn; cases hn
  · rw [h1]; split
    · exact .inr ⟨_, rfl⟩
    · exact .inl ⟨_, rfl⟩

/-- The state `putByte` has written its byte in, before any wrap. -/
def State.stored (s : State) (b : Byte) : State :=
  { writeWin s.next.toNat b s with next := s.next + 1 }

theorem putByte_eq (b : Byte) (s : State) :
    putByte b s = if (s.next + 1).toNat = hw.winSize then wrap (s.stored b) else .ok () (s.stored b) := rfl

/-- A byte that does not fill the window (R193). -/
theorem putByte_plain {b : Byte} {s : State} (h : (s.next + 1).toNat ≠ hw.winSize) :
    putByte b s = .ok () (s.stored b) := by rw [putByte_eq, if_neg h]

/-- A byte that fills the window (R193, R197). -/
theorem putByte_fill {b : Byte} {s : State} (h : (s.next + 1).toNat = hw.winSize) :
    putByte b s = (flush (s.stored b)).bind fun _ t => .ok () { t with next := 0, firstFill := false } := by
  rw [putByte_eq, if_pos h]; rfl

/-- Whatever `putByte` answers with a value, it is one of these (R193, R197). -/
theorem putByte_ok {b : Byte} {s t : State} (h : putByte b s = .ok () t) :
    ((s.next + 1).toNat ≠ hw.winSize ∧ t = s.stored b) ∨
    ((s.next + 1).toNat = hw.winSize ∧ ∃ u, flush (s.stored b) = .ok () u ∧
      t = { u with next := 0, firstFill := false }) := by
  by_cases hn : (s.next + 1).toNat = hw.winSize
  · rw [putByte_fill hn, Res.bind_eq_ok] at h
    obtain ⟨_, u, hu, ht⟩ := h
    cases ht
    exact .inr ⟨hn, u, hu, rfl⟩
  · rw [putByte_plain hn] at h; cases h; exact .inl ⟨hn, rfl⟩

/-- `putByte` raises nothing but `OutputError`, from the wrap's push (R193, R254). -/
theorem putByte_raised {b : Byte} {s t : State} {k : ErrorKind} (h : putByte b s = .raised k t) :
    (s.next + 1).toNat = hw.winSize ∧ flush (s.stored b) = .raised k t ∧ k = .outputError := by
  by_cases hn : (s.next + 1).toNat = hw.winSize
  · rw [putByte_fill hn, Res.bind_eq_raised] at h
    rcases h with h | ⟨_, _, _, h⟩
    · exact ⟨hn, h, (flush_raised h).1⟩
    · cases h
  · rw [putByte_plain hn] at h; cases h

theorem putByte_frame {b : Byte} {s t : State} (h : putByte b s = .ok () t) : SameButWindow s t := by
  rcases putByte_ok h with ⟨_, rfl⟩ | ⟨_, u, hu, rfl⟩
  · rfl
  · have := flush_frame hu
    unfold SameButWindow
    rw [this]; rfl

/-- A `putByte` stores to one address, `next` modulo WINSIZE (R64, R193). -/
theorem putByte_win {b : Byte} {s t : State} (h : putByte b s = .ok () t) :
    t.win = s.win.write (s.next.toNat % hw.winSize) b := by
  rcases putByte_ok h with ⟨_, rfl⟩ | ⟨_, u, hu, rfl⟩
  · rfl
  · have := flush_frame hu
    show u.win = _
    rw [this]; rfl

/-- Whether every byte a flush at `next` or a copy may read has been written, for a store at `next`. -/
theorem stored_written {b : Byte} {s : State} (h : WindowOk s) :
    ∀ a, (a < s.next.toNat + 1 ∨ s.firstFill = false) → a < hw.winSize →
      ((s.stored b).win.read a).isSome := by
  intro a ha hlt
  show ((s.win.write (s.next.toNat % hw.winSize) b).read a).isSome
  rw [read_write]
  split
  · rfl
  · rename_i hne
    rw [Nat.mod_eq_of_lt h.1] at hne
    cases hf : s.firstFill with
    | true => exact h.2.1 hf a (by simp [hf] at ha; omega)
    | false => exact h.2.2 hf a hlt

/-- `putByte` in a window that is in order ends with a value in a window that is in order, or with
`OutputError`; it never faults (R41, R193). -/
theorem putByte_keeps {b : Byte} {s : State} (h : WindowOk s) :
    (∃ t, putByte b s = .ok () t ∧ WindowOk t) ∨ ∃ t, putByte b s = .raised .outputError t := by
  have hlt := h.1
  rw [hw_winSize] at hlt
  have hnext : (s.next + 1).toNat = s.next.toNat + 1 := by rw [BitVec.toNat_add]; simp; omega
  by_cases hn : (s.next + 1).toNat = hw.winSize
  · rw [putByte_fill hn]
    have hall : ∀ a < hw.winSize, ((s.stored b).win.read a).isSome := fun a ha =>
      stored_written h a (.inl (by omega)) ha
    rcases flush_completes (s := s.stored b) (fun a ha => by
      have ha' : a < hw.winSize := by rw [← hn]; exact ha
      rw [Nat.mod_eq_of_lt ha']; exact hall a ha') with ⟨t, ht⟩ | ⟨t, ht⟩
    · refine .inl ⟨{ t with next := 0, firstFill := false }, by rw [ht, Res.bind_ok],
        (by decide : 0 < hw.winSize), by simp, fun _ a ha => ?_⟩
      have := flush_frame ht
      show (t.win.read a).isSome
      rw [this]; exact hall a ha
    · exact .inr ⟨t, by rw [ht, Res.bind_raised]⟩
  · rw [putByte_plain hn]
    refine .inl ⟨_, rfl, ?_, fun _ a ha => ?_, fun hf a ha => ?_⟩
    · show (s.next + 1).toNat < _
      rw [hnext, hw_winSize]; rw [hnext, hw_winSize] at hn; omega
    · have ha' : a < (s.next + 1).toNat := ha
      exact stored_written h a (.inl (by omega)) (by rw [hw_winSize]; omega)
    · exact stored_written h a (.inr hf) ha

/-- The copy loop changes only what the window operations may (R195). -/
theorem copyLoop_frame : ∀ {n : Nat} {s t : State}, copyLoop n s = .ok () t → SameButWindow s t := by
  intro n
  induction n with
  | zero => intro s t h; cases h; rfl
  | succ n ih =>
    intro s t h
    rw [copyLoop, Res.bind_eq_ok] at h
    obtain ⟨b, s1, hr, h⟩ := h
    rw [Res.bind_eq_ok] at h
    obtain ⟨_, s2, hp, h⟩ := h
    have h1 : s1 = s := by unfold readWin at hr; split at hr <;> cases hr; rfl
    subst h1
    have h2 : SameButWindow s2 { s2 with mlen := BitVec.ofNat 10 n } := rfl
    exact (putByte_frame hp).trans (h2.trans (ih h))

end Sys2Proof.Machine
end

