-- ==== Sys2Proof/Laws/Huffman.lean ====
section
/-! SUPPORT. `decode` in terms of the stream ahead, and the shape of what `construct` leaves. -/

namespace Sys2Proof.Machine

/-- The loop of R172 on a list of bits: the symbol and the bits after its code, or why there is none. -/
def walk (symbol : List Nat) (absent : Nat) :
    List Nat → (code firstc index : Nat) → Bits → Except Reject (Nat × Bits)
  | [], _, _, _, _ => .error .invalidCode
  | _ :: _, _, _, _, [] => .error .endOfInput
  | cnt :: counts, code, firstc, index, t :: bits =>
    let code := code ||| (t.toNat ^^^ 1)
    if code < firstc + cnt then .ok (symbol.getD (index + (code - firstc)) absent, bits)
    else walk symbol absent counts (code <<< 1) ((firstc + cnt) <<< 1) (index + cnt) bits

/-- How taking bits ends, in terms of a computation on the bits ahead. -/
def Tracks {α : Type} (s : State) (r : Res α) (x : Except Reject (α × Bits)) : Prop :=
  match x with
  | .ok (a, rest) => ∃ t, r = .ok a t ∧ t.bits = rest ∧ ReaderOk t ∧ SameButReader s t ∧
      t.pushes = s.pushes ∧ t.spos + rest.length = s.spos + s.bits.length
  | .error .endOfInput => ∃ t, r = .raised .endOfInput t ∧ SameButReader s t ∧ t.pushes = s.pushes
  | .error .invalidCode => ∃ t, r = .raised .invalidCode t ∧ SameButReader s t ∧ t.pushes = s.pushes
  | .error .formatError => False

/-- The decode loop does to the reader what `walk` does to the bits ahead (R172 to R175). -/
theorem decodeWalk_tracks (symbol : List Nat) (absent : Nat) : ∀ (counts : List Nat) (code firstc index : Nat)
    {s : State}, ReaderOk s →
    Tracks s (decodeWalk symbol absent counts code firstc index s)
      (walk symbol absent counts code firstc index s.bits) := by
  intro counts
  induction counts with
  | nil => intro code firstc index s hr; exact ⟨s, rfl, rfl, rfl⟩
  | cons cnt counts ih =>
    intro code firstc index s hr
    match hb : s.bits with
    | [] =>
      obtain ⟨t, ht, hf, hp⟩ := takeBits_end hr (n := 1) (by decide) (by rw [hb]; decide)
      exact ⟨t, by rw [decodeWalk, ht, Res.bind_raised], hf, hp⟩
    | b :: rest =>
      obtain ⟨t, ht, htb, htr, hf, hp, hpos⟩ := takeBits_one hr hb
      simp only [decodeWalk, walk, ht, Res.bind_ok]
      split
      · refine ⟨t, rfl, htb, htr, hf, hp, ?_⟩
        rw [hb, hpos]; push_cast [List.length_cons]; ring
      · have := ih ((code ||| (b.toNat ^^^ 1)) <<< 1) ((firstc + cnt) <<< 1) (index + cnt) htr
        rw [htb] at this
        unfold Tracks at this ⊢
        split at this
        · obtain ⟨u, hu, hub, hur, huf, hup, hupos⟩ := this
          refine ⟨u, hu, hub, hur, hf.trans huf, hup.trans hp, ?_⟩
          rw [hb, hupos, hpos, htb]; push_cast [List.length_cons]; ring
        · obtain ⟨u, hu, huf, hup⟩ := this
          exact ⟨u, hu, hf.trans huf, hup.trans hp⟩
        · obtain ⟨u, hu, huf, hup⟩ := this
          exact ⟨u, hu, hf.trans huf, hup.trans hp⟩
        · exact this

/-- A raw group does to the reader what `takeGroup` does to the bits ahead (R131, R134). -/
theorem takeBits_tracks {n : Nat} {s : State} (hr : ReaderOk s) (hn : n ≤ 16) :
    Tracks s (takeBits n s) (takeGroup n s.bits) := by
  unfold takeGroup
  split
  · exact takeBits_end hr hn ‹_›
  · obtain ⟨t, ht, hb, htr, hf, hp, hpos⟩ := takeBits_ok hr hn (by omega : n ≤ s.bits.length)
    refine ⟨t, ht, hb, htr, hf, hp, ?_⟩
    rw [hpos, List.length_drop]; omega

/-- A table as the core holds it: 17 counts, and a symbol memory of the alphabet's size (R60). -/
def HuffmanTable.shaped (t : HuffmanTable) (a : Alphabet) : Prop :=
  t.count.length = hw.maxBits + 1 ∧ t.symbol.length = a.size

@[simp] theorem length_histogram (lengths : List Nat) : (histogram lengths).length = 17 := by
  simp [histogram]

theorem length_placeSymbols (store : Nat → Nat) : ∀ (lengths : List Nat) (k : Nat) (offs symbol : List Nat),
    (placeSymbols store lengths k offs symbol).length = symbol.length
  | [], _, _, _ => rfl
  | 0 :: lengths, k, offs, symbol => length_placeSymbols store lengths (k + 1) offs symbol
  | (l + 1) :: lengths, k, offs, symbol => by
    rw [placeSymbols, length_placeSymbols store lengths (k + 1) _ _, List.length_set]

/-- What `buildTable` leaves: all lengths zero (R153), over-subscribed (R154), or placed (R156). -/
theorem buildTable_cases (store : Nat → Nat) (old : HuffmanTable) (lengths : List Nat) :
    ((histogram lengths).getD 0 0 = lengths.length ∧
      buildTable store old lengths = ⟨histogram lengths, old.symbol, 0⟩) ∨
    ((histogram lengths).getD 0 0 ≠ lengths.length ∧ validate 1 (histogram lengths).tail < 0 ∧
      buildTable store old lengths = ⟨histogram lengths, old.symbol, validate 1 (histogram lengths).tail⟩) ∨
    ((histogram lengths).getD 0 0 ≠ lengths.length ∧ 0 ≤ validate 1 (histogram lengths).tail ∧
      buildTable store old lengths = ⟨histogram lengths,
        placeSymbols store lengths 0 (slotOffsets 0 (histogram lengths).tail) old.symbol,
        validate 1 (histogram lengths).tail⟩) := by
  by_cases h0 : (histogram lengths).getD 0 0 = lengths.length
  · exact .inl ⟨h0, by simp only [buildTable, if_pos h0]⟩
  · by_cases hl : validate 1 (histogram lengths).tail < 0
    · exact .inr (.inl ⟨h0, hl, by simp only [buildTable, if_neg h0, if_pos hl]⟩)
    · exact .inr (.inr ⟨h0, by omega, by simp only [buildTable, if_neg h0, if_neg hl]⟩)

/-- Building a table keeps the sizes of its memories (R25, R60). -/
theorem buildTable_shaped (store : Nat → Nat) {old : HuffmanTable} {a : Alphabet} (h : old.shaped a)
    (lengths : List Nat) :
    (buildTable store old lengths).shaped a := by
  rcases buildTable_cases store old lengths with ⟨_, e⟩ | ⟨_, _, e⟩ | ⟨_, _, e⟩ <;> rw [e]
  · exact ⟨length_histogram _, h.2⟩
  · exact ⟨length_histogram _, h.2⟩
  · exact ⟨length_histogram _, by rw [length_placeSymbols]; exact h.2⟩

@[simp] theorem table_setTable_same (s : State) (a : Alphabet) (t : HuffmanTable) :
    (s.setTable a t).table a = t := by cases a <;> rfl

theorem table_setTable_other (s : State) {a b : Alphabet} (t : HuffmanTable) (h : b ≠ a) :
    (s.setTable a t).table b = s.table b := by cases a <;> cases b <;> first | rfl | exact absurd rfl h

@[simp] theorem table_forgetBuilder (s : State) (a : Alphabet) : s.forgetBuilder.table a = s.table a := by
  cases a <;> rfl

@[simp] theorem table_forgetDecoder (s : State) (a : Alphabet) : s.forgetDecoder.table a = s.table a := by
  cases a <;> rfl

@[simp] theorem table_setSym (s : State) (k : Nat) (a : Alphabet) : (s.setSym k).table a = s.table a := by
  cases a <;> rfl

@[simp] theorem table_withFixedTables (s : State) (a : Alphabet) :
    s.withFixedTables.table a = fixedTable a := by cases a <;> rfl

/-- What `constructInto` answers (R150, R151, R158): a refusal of a list too short for its declared
count, else the built table in place and the scratch dead. -/
theorem constructInto_cases (a : Alphabet) (list : List Byte) (n : Nat) (s : State) :
    (listSymbols list < n ∧ constructInto a list n s = .refused .listTooShort) ∨
    (n ≤ listSymbols list ∧ constructInto a list n s = .ok () (s.setTable a
      (buildTable (storedSymbol a s.fresh) (s.table a) (expandLengths list n))).forgetBuilder) := by
  unfold constructInto
  split
  · exact .inl ⟨‹_›, rfl⟩
  · exact .inr ⟨by omega, rfl⟩

/-! ### Entries of a symbol memory (R25, R60; log 26) -/

theorem size_eq_symbolBits (a : Alphabet) : a.size = 2 ^ symbolBits a := by cases a <;> rfl

/-- A symbol of the alphabet is stored as itself. -/
theorem storedSymbol_fits {a : Alphabet} {k : Nat} (draw : Nat) (h : k < a.size) :
    storedSymbol a draw k = k := if_pos h

/-- An entry holds one of the alphabet's symbols, whatever was stored (R181). -/
theorem storedSymbol_lt (a : Alphabet) (draw k : Nat) : storedSymbol a draw k < a.size := by
  unfold storedSymbol
  split
  · assumption
  · rw [size_eq_symbolBits]; exact BitVec.isLt _

theorem absentSlot_lt (a : Alphabet) (draw : Nat) : absentSlot a draw < a.size := by
  rw [size_eq_symbolBits]; exact BitVec.isLt _

/-- A placement depends on `store` only at the symbols it places. -/
theorem placeSymbols_congr {f g : Nat → Nat} : ∀ (lengths : List Nat) (k : Nat) (offs symbol : List Nat),
    (∀ j, k ≤ j → j < k + lengths.length → f j = g j) →
    placeSymbols f lengths k offs symbol = placeSymbols g lengths k offs symbol
  | [], _, _, _, _ => rfl
  | 0 :: lengths, k, offs, symbol, h => by
    simp only [List.length_cons] at h
    exact placeSymbols_congr lengths (k + 1) offs symbol fun j h1 h2 => h j (by omega) (by omega)
  | (l + 1) :: lengths, k, offs, symbol, h => by
    simp only [List.length_cons] at h
    simp only [placeSymbols, h k (Nat.le_refl k) (by omega)]
    exact placeSymbols_congr lengths (k + 1) _ _ fun j h1 h2 => h j (by omega) (by omega)

/-- One length per symbol, up to the declared count (R151). -/
theorem length_expandLengths_le (list : List Byte) (n : Nat) : (expandLengths list n).length ≤ n :=
  List.length_take_le _ _

/-- The table built of lists no longer than the alphabet holds the symbols themselves (R156). -/
theorem buildTable_fits {a : Alphabet} {old : HuffmanTable} {lengths : List Nat} (draw : Nat)
    (h : lengths.length ≤ a.size) :
    buildTable (storedSymbol a draw) old lengths = buildTable id old lengths := by
  have e (offs symbol : List Nat) :
      placeSymbols (storedSymbol a draw) lengths 0 offs symbol = placeSymbols id lengths 0 offs symbol :=
    placeSymbols_congr lengths 0 offs symbol fun j _ hj => storedSymbol_fits draw (by omega)
  simp only [buildTable, e]

end Sys2Proof.Machine
end

