-- ==== Sys2Proof/Laws/Boot.lean ====
section
/-! SUPPORT. What the three fixed lists build, whatever the table memories held before (R160), and the
boot build (R292). -/

namespace Sys2Proof.Machine

/-- The slots `placeSymbols` writes. -/
def slotsWritten : List Nat → List Nat → List Nat
  | [], _ => []
  | 0 :: lengths, offs => slotsWritten lengths offs
  | (l + 1) :: lengths, offs => offs.getD l 0 :: slotsWritten lengths (offs.set l (offs.getD l 0 + 1))

/-- At a slot that is written, or where the old memories agree, the new memories agree. -/
theorem placeSymbols_agree (store : Nat → Nat) : ∀ (lengths : List Nat) (k : Nat) (offs as bs : List Nat) (j : Nat),
    as.length = bs.length → (as[j]? = bs[j]? ∨ j ∈ slotsWritten lengths offs) →
    (placeSymbols store lengths k offs as)[j]? = (placeSymbols store lengths k offs bs)[j]?
  | [], _, _, _, _, _, _, h => by
    rcases h with h | h
    · exact h
    · simp [slotsWritten] at h
  | 0 :: lengths, k, offs, as, bs, j, hl, h =>
    placeSymbols_agree store lengths (k + 1) offs as bs j hl (by simpa [slotsWritten] using h)
  | (l + 1) :: lengths, k, offs, as, bs, j, hl, h => by
    refine placeSymbols_agree store lengths (k + 1) _ _ _ j (by simpa using hl) ?_
    by_cases hj : offs.getD l 0 = j
    · left
      rw [List.getElem?_set, List.getElem?_set, if_pos hj, if_pos hj, hl]
    · rcases h with h | h
      · left
        rw [List.getElem?_set, List.getElem?_set, if_neg hj, if_neg hj]; exact h
      · right
        rw [slotsWritten, List.mem_cons] at h
        exact h.resolve_left fun e => hj e.symm

/-- A placement that writes every slot does not depend on what the memory held. -/
theorem placeSymbols_covers {store : Nat → Nat} {lengths offs as bs : List Nat} {k n : Nat} (ha : as.length = n)
    (hb : bs.length = n) (h : ∀ j < n, j ∈ slotsWritten lengths offs) :
    placeSymbols store lengths k offs as = placeSymbols store lengths k offs bs := by
  apply List.ext_getElem?
  intro j
  by_cases hj : j < n
  · exact placeSymbols_agree _ _ _ _ _ _ _ (ha.trans hb.symm) (.inr (h j hj))
  · rw [List.getElem?_eq_none (by rw [length_placeSymbols]; omega),
      List.getElem?_eq_none (by rw [length_placeSymbols]; omega)]

/-- The compact length list of an alphabet (R9). -/
def fixedList : Alphabet → List Byte
  | .lit => hw.litLenSpec
  | .len => hw.lenLenSpec
  | .dist => hw.distLenSpec

/-- Each fixed list, over blank memories, builds the table the spec prints (R107, R109, R112, R160). -/
theorem buildTable_blank (a : Alphabet) :
    buildTable id (blankTable a.size) (expandLengths (fixedList a) a.size) = fixedTable a := by
  cases a <;> decide +kernel

theorem slots_covered (a : Alphabet) : ∀ j < a.size,
    j ∈ slotsWritten (expandLengths (fixedList a) a.size)
      (slotOffsets 0 (histogram (expandLengths (fixedList a) a.size)).tail) := by
  cases a <;> decide +kernel

theorem validate_fixed (a : Alphabet) :
    (histogram (expandLengths (fixedList a) a.size)).getD 0 0 ≠
      (expandLengths (fixedList a) a.size).length ∧
    validate 1 (histogram (expandLengths (fixedList a) a.size)).tail = 0 := by
  cases a <;> decide +kernel

/-- Each fixed list builds its table whatever the memory held before. -/
theorem buildTable_fixed {a : Alphabet} {old : HuffmanTable} (h : old.symbol.length = a.size) :
    buildTable id old (expandLengths (fixedList a) a.size) = fixedTable a := by
  rw [← buildTable_blank]
  obtain ⟨h0, hv⟩ := validate_fixed a
  have hv' : ¬ validate 1 (histogram (expandLengths (fixedList a) a.size)).tail < 0 := by omega
  simp only [buildTable, if_neg h0, if_neg hv']
  congr 1
  exact placeSymbols_covers (n := a.size) h (by simp [blankTable]) (slots_covered a)

theorem listSymbols_fixed (a : Alphabet) : listSymbols (fixedList a) = a.size := by
  cases a <;> decide +kernel

/-- `construct` of a fixed list into its own table (R160). -/
theorem constructInto_fixed {a : Alphabet} {s : State} (h : (s.table a).symbol.length = a.size) :
    constructInto a (fixedList a) a.size s = .ok () (s.setTable a (fixedTable a)).forgetBuilder := by
  rcases constructInto_cases a (fixedList a) a.size s with ⟨h1, _⟩ | ⟨_, e⟩
  · rw [listSymbols_fixed] at h1; omega
  · rw [e, buildTable_fits _ (length_expandLengths_le _ _), buildTable_fixed h]

theorem configOk_hw : configOk hw = true := by decide +kernel

/-- The boot build (R292): the three fixed tables, `tables_built`, and the builder's scratch dead. -/
theorem boot_ok {s : State} (h : SymbolSizes s) :
    boot s = .ok () { ((((s.setTable .lit fixedLit).forgetBuilder.setTable .len
      fixedLen).forgetBuilder).setTable .dist fixedDist).forgetBuilder with tablesBuilt := true } := by
  unfold boot
  rw [if_pos configOk_hw]
  have h1 := constructInto_fixed (a := .lit) (h .lit)
  have h2 := constructInto_fixed (a := .len) (s := (s.setTable .lit fixedLit).forgetBuilder)
    (by rw [table_forgetBuilder, table_setTable_other _ _ (by decide)]; exact h .len)
  have h3 := constructInto_fixed (a := .dist)
    (s := ((s.setTable .lit fixedLit).forgetBuilder.setTable .len fixedLen).forgetBuilder)
    (by rw [table_forgetBuilder, table_setTable_other _ _ (by decide), table_forgetBuilder,
          table_setTable_other _ _ (by decide)]; exact h .dist)
  show (constructInto .lit (fixedList .lit) Alphabet.lit.size s).bind _ = _
  rw [h1, Res.bind_ok]
  show (constructInto .len (fixedList .len) Alphabet.len.size _).bind _ = _
  rw [show fixedTable .lit = fixedLit from rfl, h2, Res.bind_ok]
  show (constructInto .dist (fixedList .dist) Alphabet.dist.size _).bind _ = _
  rw [show fixedTable .len = fixedLen from rfl, h3, Res.bind_ok]
  rfl

/-- Everything the boot build does. -/
theorem boot_spec {s : State} (h : SymbolSizes s) :
    ∃ t, boot s = .ok () t ∧ TablesFixed t ∧
      t = { s with litTable := fixedLit, lenTable := fixedLen, distTable := fixedDist,
                   tablesBuilt := true, clen := t.clen, left := t.left, nsym := t.nsym,
                   lengths := t.lengths, offs := t.offs, fresh := t.fresh } := by
  refine ⟨_, boot_ok h, ?_, ?_⟩
  · intro a; cases a <;> rfl
  · simp only [State.forgetBuilder, State.setTable]

end Sys2Proof.Machine
end

