-- ==== Sys2Proof/Laws/Codes.lean ====
section
/-! SUPPORT. The loop of R172 on the three fixed tables reads exactly the codes of R107, R109 and R113
(R180). -/

namespace Sys2Proof.Machine

/-- The first row whose remaining pattern the bits start with, and the bits after it. -/
def findRow : List (Nat × Bits) → Bits → Option (Nat × Bits)
  | [], _ => none
  | (k, p) :: rows, bits => if p.isPrefixOf bits then some (k, bits.drop p.length) else findRow rows bits

/-- The rows whose pattern starts with `t`, without it. -/
def rowsAfter (t : Bool) : List (Nat × Bits) → List (Nat × Bits)
  | [] => []
  | (_, []) :: rows => rowsAfter t rows
  | (k, b :: p) :: rows => if b = t then (k, p) :: rowsAfter t rows else rowsAfter t rows

/-- A table and a list of patterns say the same, bit by bit down the tree. -/
def sameTree (symbol : List Nat) :
    List Nat → (code firstc index : Nat) → List (Nat × Bits) → Bool
  | [], _, _, _, rows => rows.isEmpty
  | cnt :: counts, code, firstc, index, rows =>
    (rows.all fun r => !r.2.isEmpty) && [false, true].all fun t =>
      let code := code ||| (t.toNat ^^^ 1)
      if code < firstc + cnt then
        (rowsAfter t rows).head?.any fun r => r.2.isEmpty && symbol[index + (code - firstc)]? == some r.1
      else sameTree symbol counts (code <<< 1) ((firstc + cnt) <<< 1) (index + cnt) (rowsAfter t rows)

theorem findRow_cons (t : Bool) (bits : Bits) : ∀ {rows : List (Nat × Bits)},
    (rows.all fun r => !r.2.isEmpty) = true → findRow rows (t :: bits) = findRow (rowsAfter t rows) bits
  | [], _ => rfl
  | (k, []) :: rows, h => by simp at h
  | (k, b :: p) :: rows, h => by
    rw [List.all_cons, Bool.and_eq_true] at h
    have ih := findRow_cons t bits h.2
    by_cases hb : b = t
    · simp [findRow, rowsAfter, hb, ih]
    · simp [findRow, rowsAfter, hb, ih, List.isPrefixOf]

theorem findRow_nil : ∀ {rows : List (Nat × Bits)}, (rows.all fun r => !r.2.isEmpty) = true →
    findRow rows [] = none
  | [], _ => rfl
  | (k, []) :: rows, h => by simp at h
  | (k, b :: p) :: rows, h => by
    rw [List.all_cons, Bool.and_eq_true] at h
    simp only [findRow, List.isPrefixOf]
    exact findRow_nil h.2

/-- When they do, the loop finds the row the bits start with. -/
theorem walk_sameTree (symbol : List Nat) (absent : Nat) : ∀ (counts : List Nat) (code firstc index : Nat)
    (rows : List (Nat × Bits)) (bits : Bits), sameTree symbol counts code firstc index rows = true →
    walk symbol absent counts code firstc index bits =
      match findRow rows bits with
      | some r => .ok r
      | none => if bits.length < counts.length then .error .endOfInput else .error .invalidCode
  | [], code, firstc, index, rows, bits, h => by
    simp only [sameTree, List.isEmpty_iff] at h
    subst h; rfl
  | cnt :: counts, code, firstc, index, rows, [], h => by
    simp only [sameTree, Bool.and_eq_true] at h
    rw [findRow_nil h.1]; rfl
  | cnt :: counts, code, firstc, index, rows, t :: bits, h => by
    simp only [sameTree, Bool.and_eq_true, List.all_cons, List.all_nil, and_true] at h
    rw [findRow_cons t bits h.1]
    have ht : (if code ||| (t.toNat ^^^ 1) < firstc + cnt then
        (rowsAfter t rows).head?.any fun r =>
          r.2.isEmpty && symbol[index + ((code ||| (t.toNat ^^^ 1)) - firstc)]? == some r.1
      else sameTree symbol counts ((code ||| (t.toNat ^^^ 1)) <<< 1) ((firstc + cnt) <<< 1) (index + cnt)
        (rowsAfter t rows)) = true := by
      cases t
      · exact h.2.1
      · exact h.2.2
    simp only [walk]
    split
    · rename_i hlt
      rw [if_pos hlt] at ht
      match hr : rowsAfter t rows with
      | [] => rw [hr] at ht; cases ht
      | (k, p) :: rest =>
        rw [hr] at ht
        simp only [List.head?_cons, Option.any_some, Bool.and_eq_true, List.isEmpty_iff, beq_iff_eq] at ht
        simp [findRow, ht.1, ht.2]
    · rename_i hlt
      rw [if_neg hlt] at ht
      rw [walk_sameTree symbol absent counts _ _ _ _ bits ht]
      simp

/-- The codes of an alphabet as rows. -/
def codeRows : List (Nat × Nat) → Nat → List (Nat × Bits)
  | [], _ => []
  | (l, c) :: rows, k => (k, codePattern l c) :: codeRows rows (k + 1)

@[simp] theorem length_codePattern (l c : Nat) : (codePattern l c).length = l := by
  induction l with
  | zero => rfl
  | succ l ih => simp [codePattern, ih]

theorem matchCode_eq (bits : Bits) : ∀ (rows : List (Nat × Nat)) (k : Nat),
    matchCode rows k bits = findRow (codeRows rows k) bits
  | [], _ => rfl
  | (l, c) :: rows, k => by
    simp only [matchCode, codeRows, findRow, length_codePattern, matchCode_eq bits rows (k + 1)]

theorem sameTree_fixed (a : Alphabet) :
    sameTree (fixedTable a).symbol (fixedTable a).count.tail 0 0 0 (codeRows (codesOf a) 0) = true := by
  cases a <;> decide +kernel

/-- `decode` on a fixed table reads the codes of that alphabet (R180). -/
theorem walk_fixed (a : Alphabet) (absent : Nat) (bits : Bits) :
    walk (fixedTable a).symbol absent (fixedTable a).count.tail 0 0 0 bits = takeCode a bits := by
  rw [walk_sameTree _ _ _ _ _ _ _ _ (sameTree_fixed a), ← matchCode_eq]
  unfold takeCode
  have h : (fixedTable a).count.tail.length = hw.maxBits := by cases a <;> rfl
  cases matchCode (codesOf a) 0 bits with
  | none => simp only [h]
  | some r => rfl

theorem fixedTable_status (a : Alphabet) : (fixedTable a).status = 0 := by cases a <;> rfl

/-- A symbol read is one of the alphabet's (R181). -/
theorem matchCode_lt {bits rest : Bits} {k : Nat} : ∀ {rows : List (Nat × Nat)} {j : Nat},
    matchCode rows j bits = some (k, rest) → j ≤ k ∧ k < j + rows.length
  | [], _, h => by cases h
  | (l, c) :: rows, j, h => by
    simp only [matchCode] at h
    split at h
    · cases h; simp
    · have := matchCode_lt h
      simp only [List.length_cons]; omega

theorem length_codesOf (a : Alphabet) : (codesOf a).length = a.size := by cases a <;> decide +kernel

theorem takeCode_lt {a : Alphabet} {bits rest : Bits} {k : Nat} (h : takeCode a bits = .ok (k, rest)) :
    k < a.size := by
  unfold takeCode at h
  split at h
  · rename_i r hr
    cases h
    have := matchCode_lt hr
    rw [length_codesOf] at this; omega
  · split at h <;> cases h

/-- Whether every run of `n` bits starts with some row's pattern. -/
def covers : Nat → List (Nat × Bits) → Bool
  | 0, rows => rows.any fun r => r.2.isEmpty
  | n + 1, rows => (rows.any fun r => r.2.isEmpty) ||
      (covers n (rowsAfter false rows) && covers n (rowsAfter true rows))

theorem mem_rowsAfter {t : Bool} {r : Nat × Bits} : ∀ {rows : List (Nat × Bits)},
    r ∈ rowsAfter t rows → (r.1, t :: r.2) ∈ rows
  | (_, []) :: rows, h => List.mem_cons_of_mem _ (mem_rowsAfter h)
  | (k, b :: p) :: rows, h => by
    simp only [rowsAfter] at h
    split at h
    · rename_i hb
      subst hb
      rcases List.mem_cons.mp h with rfl | h
      · exact List.mem_cons_self ..
      · exact List.mem_cons_of_mem _ (mem_rowsAfter h)
    · exact List.mem_cons_of_mem _ (mem_rowsAfter h)

theorem covers_prefix : ∀ {n : Nat} {rows : List (Nat × Bits)} {bits : Bits}, covers n rows = true →
    n ≤ bits.length → ∃ r ∈ rows, r.2.isPrefixOf bits = true := by
  have empty : ∀ {rows : List (Nat × Bits)} {bits : Bits}, (rows.any fun r => r.2.isEmpty) = true →
      ∃ r ∈ rows, r.2.isPrefixOf bits = true := by
    intro rows bits h
    obtain ⟨r, hr, he⟩ := List.any_eq_true.mp h
    exact ⟨r, hr, by rw [List.isEmpty_iff.mp he]; rfl⟩
  intro n
  induction n with
  | zero => intro rows bits h _; exact empty h
  | succ n ih =>
    intro rows bits h hl
    rw [covers, Bool.or_eq_true, Bool.and_eq_true] at h
    rcases h with h | ⟨hf, ht⟩
    · exact empty h
    · match bits, hl with
      | t :: bits, hl =>
        have hc : covers n (rowsAfter t rows) = true := by cases t <;> assumption
        obtain ⟨r, hr, hp⟩ := ih hc (Nat.le_of_succ_le_succ hl)
        exact ⟨_, mem_rowsAfter hr, by simpa [List.isPrefixOf] using hp⟩

theorem findRow_some {bits : Bits} : ∀ {rows : List (Nat × Bits)},
    (∃ r ∈ rows, r.2.isPrefixOf bits = true) → ∃ p, findRow rows bits = some p
  | [], ⟨_, h, _⟩ => by cases h
  | (k, q) :: rows, ⟨r, h, hp⟩ => by
    by_cases hq : q.isPrefixOf bits = true
    · exact ⟨_, by rw [findRow, if_pos hq]⟩
    · rw [findRow, if_neg hq]
      rcases List.mem_cons.mp h with rfl | h
      · exact absurd hp hq
      · exact findRow_some ⟨r, h, hp⟩

/-- The three codes are complete: 13 bits always start with a code (R104, R176). -/
theorem takeCode_total {a : Alphabet} {bits : Bits} (h : 13 ≤ bits.length) : ∃ p, takeCode a bits = .ok p := by
  have hc : covers 13 (codeRows (codesOf a) 0) = true := by cases a <;> decide +kernel
  obtain ⟨p, hp⟩ := findRow_some (covers_prefix hc h)
  rw [← matchCode_eq] at hp
  exact ⟨p, by unfold takeCode; rw [hp]⟩

/-- With the fixed codes no bits are an invalid code (R104). -/
theorem takeCode_ne_invalid (a : Alphabet) (bits : Bits) : takeCode a bits ≠ .error .invalidCode := by
  by_cases h : 13 ≤ bits.length
  · obtain ⟨p, hp⟩ := takeCode_total (a := a) h; rw [hp]; simp
  · unfold takeCode
    split
    · simp
    · rw [if_pos (by rw [hw_maxBits]; omega)]; simp

end Sys2Proof.Machine
end

