-- ==== Sys2Proof/Laws/Fetch.lean ====
section
/-! SUPPORT. Fetching does to the core what the decoder does to the stream ahead: the same instruction
and the same bits left, or the same rejection raised (R180, R213, R230, R263). -/

namespace Sys2Proof.Machine

variable {α β : Type}

theorem SameButFetch.refl (s : State) : SameButFetch s s := rfl

theorem SameButFetch.trans {s t u : State} (h : SameButFetch s t) (h' : SameButFetch t u) :
    SameButFetch s u := by
  unfold SameButFetch at *; rw [h']; rw [h]

theorem SameButReader.toFetch {s t : State} (h : SameButReader s t) : SameButFetch s t := by
  unfold SameButReader at h; unfold SameButFetch; rw [h]

/-- What a read may change; outside the header (`h` false) the header fields stay (R31). -/
def FetchKeeps (h : Bool) (s t : State) : Prop :=
  SameButFetch s t ∧ (h = false → t.lit = s.lit ∧ t.dict = s.dict)

theorem FetchKeeps.refl (h : Bool) (s : State) : FetchKeeps h s s := ⟨rfl, fun _ => ⟨rfl, rfl⟩⟩

theorem FetchKeeps.trans {h : Bool} {s t u : State} (a : FetchKeeps h s t) (b : FetchKeeps h t u) :
    FetchKeeps h s u :=
  ⟨a.1.trans b.1, fun e => ⟨(b.2 e).1.trans (a.2 e).1, (b.2 e).2.trans (a.2 e).2⟩⟩

theorem SameButReader.keeps {h : Bool} {s t : State} (e : SameButReader s t) : FetchKeeps h s t :=
  ⟨e.toFetch, fun _ => by unfold SameButReader at e; rw [e]; exact ⟨rfl, rfl⟩⟩

/-- How a read of the stream ends, in terms of a computation on the bits ahead. -/
def Reads (h : Bool) (s : State) (r : Res α) (x : Except Reject (α × Bits)) : Prop :=
  match x with
  | .ok p => ∃ t, r = .ok p.1 t ∧ t.bits = p.2 ∧ ReaderOk t ∧ FetchKeeps h s t ∧
      t.pushes = s.pushes ∧ t.spos + p.2.length = s.spos + s.bits.length
  | .error e => ∃ t, r = .raised (rejectKind e) t ∧ FetchKeeps h s t ∧ t.pushes = s.pushes

theorem Tracks.reads {h : Bool} {s : State} {r : Res α} {x : Except Reject (α × Bits)} (e : Tracks s r x) :
    Reads h s r x := by
  match x, e with
  | .ok _, ⟨t, h1, h2, h3, h4, h5⟩ => exact ⟨t, h1, h2, h3, h4.keeps, h5⟩
  | .error .endOfInput, ⟨t, h1, h2, h3⟩ => exact ⟨t, h1, h2.keeps, h3⟩
  | .error .invalidCode, ⟨t, h1, h2, h3⟩ => exact ⟨t, h1, h2.keeps, h3⟩

theorem Reads.bind {h : Bool} {s : State} {r : Res α} {x : Except Reject (α × Bits)} {f : α → State → Res β}
    {g : α × Bits → Except Reject (β × Bits)} (e : Reads h s r x)
    (hf : ∀ a t, ReaderOk t → FetchKeeps h s t → x = .ok (a, t.bits) → Reads h t (f a t) (g (a, t.bits))) :
    Reads h s (r.bind f) (x.bind g) := by
  match x, e with
  | .error e, ⟨t, h1, h2, h3⟩ => exact ⟨t, by rw [h1, Res.bind_raised], h2, h3⟩
  | .ok (a, rest), ⟨t, h1, h2, h3, h4, h5, h6⟩ =>
    subst h2
    rw [h1, Res.bind_ok]
    have := hf a t h3 h4 rfl
    show Reads h s _ (g (a, t.bits))
    match hg : g (a, t.bits), this with
    | .error e, hu =>
      obtain ⟨u, k1, k2, k3⟩ := hu
      exact ⟨u, k1, h4.trans k2, k3.trans h5⟩
    | .ok (b, rest), hu =>
      obtain ⟨u, k1, k2, k3, k4, k5, k6⟩ := hu
      exact ⟨u, k1, k2, k3, h4.trans k4, k5.trans h5, by simp only at k6 h6 ⊢; omega⟩

/-- A read that changes nothing of the reader. -/
theorem Reads.pure {h : Bool} {s t : State} {a : α} (hr : ReaderOk s)
    (e : t = { s with mlen := t.mlen, mdist := t.mdist, sym := t.sym, code := t.code, firstc := t.firstc,
                      index := t.index, clen := t.clen, fresh := t.fresh }) :
    Reads h s (.ok a t) (.ok (a, s.bits)) := by
  refine ⟨t, rfl, ?_, ?_, ⟨?_, fun _ => ?_⟩, ?_, ?_⟩
  · rw [e]; rfl
  · rw [e]; exact hr
  · unfold SameButFetch; rw [e]
  · rw [e]; exact ⟨rfl, rfl⟩
  · rw [e]; rfl
  · rw [e]; rfl

/-- A raw group (R131, R134). -/
theorem takeBits_reads {h : Bool} {n : Nat} {s : State} (hr : ReaderOk s) (hn : n ≤ 16) :
    Reads h s (takeBits n s) (takeGroup n s.bits) := (takeBits_tracks hr hn).reads

/-- One code of an alphabet with its fixed table (R172 to R175, R180). -/
theorem decodeSym_reads {h : Bool} {a : Alphabet} {s : State} (hr : ReaderOk s) (ht : s.table a = fixedTable a) :
    Reads h s (decodeSym a s) (takeCode a s.bits) := by
  have e := decodeWalk_tracks (fixedTable a).symbol (absentSlot a s.fresh) (fixedTable a).count.tail 0 0 0 hr
  rw [walk_fixed] at e
  have hs : ¬ (fixedTable a).status < 0 := by rw [fixedTable_status]; decide
  unfold decodeSym
  simp only [ht, if_neg hs]
  have e' : takeCode a s.bits = (takeCode a s.bits).bind fun p => .ok p := by
    cases takeCode a s.bits <;> rfl
  rw [e']
  exact e.reads.bind fun k t hrt _ _ => Reads.pure hrt rfl

theorem readByteField_reads {h : Bool} {s : State} (hr : ReaderOk s) :
    Reads h s (readByteField s) ((takeGroup 8 s.bits).bind fun p => .ok (BitVec.ofNat 8 p.1, p.2)) :=
  (takeBits_reads hr (by decide)).bind fun _ _ hrt _ _ => Reads.pure hrt rfl

theorem SameButFetch.table {s t : State} (h : SameButFetch s t) (a : Alphabet) : t.table a = s.table a := by
  unfold SameButFetch at h; rw [h]; cases a <;> rfl

/-- A field check: the value goes on, or `FormatError`. -/
theorem check_reads {s t : State} {ok : Bool} (hr : ReaderOk s)
    (h : t = { s with lit := t.lit, dict := t.dict }) :
    Reads true s (if ok then .ok () t else .raised .formatError t : Res Unit)
      (if ok then .ok ((), s.bits) else .error .formatError) := by
  cases ok
  · exact ⟨t, rfl, ⟨by unfold SameButFetch; rw [h], by simp⟩, by rw [h]; rfl⟩
  · refine ⟨t, rfl, by rw [h]; rfl, by rw [h]; exact hr, ⟨?_, by simp⟩, by rw [h]; rfl, by rw [h]; rfl⟩
    unfold SameButFetch; rw [h]

theorem fetchHeader_reads {s : State} (hr : ReaderOk s) :
    Reads true s (fetchHeader s) (decodeHeader s.bits) := by
  have e : decodeHeader s.bits =
      ((takeGroup 8 s.bits).bind fun p => .ok (BitVec.ofNat 8 p.1, p.2)).bind fun p =>
        (if legalLit p.1 then Except.ok ((), p.2) else .error .formatError).bind fun q =>
          ((takeGroup 8 q.2).bind fun p => .ok (BitVec.ofNat 8 p.1, p.2)).bind fun d =>
            (if legalDict d.1 then Except.ok ((), d.2) else .error .formatError).bind fun q =>
              .ok (.hdr p.1 d.1, q.2) := by
    unfold decodeHeader
    cases takeGroup 8 s.bits with
    | error e => rfl
    | ok p =>
      simp only [Except.bind, bind]
      cases h1 : legalLit (BitVec.ofNat 8 p.1)
      · rfl
      · simp only [Bool.not_true, Bool.false_eq_true, if_false, if_true]
        cases takeGroup 8 p.2 with
        | error e => rfl
        | ok q => cases h2 : legalDict (BitVec.ofNat 8 q.1) <;> simp [h2]
  rw [e]
  refine (readByteField_reads hr).bind fun lit t htr _ _ => ?_
  refine (check_reads htr (t := { t with lit := lit }) rfl).bind fun _ u hur _ _ => ?_
  refine (readByteField_reads hur).bind fun dict v hvr _ _ => ?_
  exact (check_reads hvr (t := { v with dict := dict }) rfl).bind fun _ w hwr _ _ => Reads.pure hwr rfl

theorem fetchLiteral_reads {s : State} (hr : ReaderOk s) (ht : s.table .lit = fixedTable .lit) :
    Reads false s (fetchLiteral s) (decodeLiteral s.lit s.bits) := by
  unfold fetchLiteral decodeLiteral State.codedLiterals
  by_cases h : s.lit = 0
  · have h' : (s.lit != 0) = false := by simp [h]
    rw [h', if_pos h]
    have := (readByteField_reads (h := false) hr).bind (f := fun b s => .ok (.litRaw b) s)
      (g := fun p => .ok (Instr.litRaw p.1, p.2)) fun b t htr _ _ => Reads.pure htr rfl
    simp only [Bool.false_eq_true, if_false]
    convert this using 1
    cases takeGroup 8 s.bits <;> rfl
  · have h' : (s.lit != 0) = true := by simpa using h
    rw [h', if_neg h]
    have := (decodeSym_reads (h := false) hr ht).bind (f := fun k s => .ok (.litHuf (BitVec.ofNat 8 k)) s)
      (g := fun p => .ok (Instr.litHuf (BitVec.ofNat 8 p.1), p.2)) fun b t htr _ _ => Reads.pure htr rfl
    simp only [if_true]
    convert this using 1
    cases takeCode .lit s.bits <;> rfl

theorem lenExtra_le (k : Nat) : lenExtra k ≤ 8 := by
  unfold lenExtra
  rw [List.getD_eq_getElem?_getD]
  by_cases h : k < 16
  · have := (by decide : ∀ k < 16, (hw.lenExtra[k]?).getD 0 ≤ 8) k h; exact this
  · rw [List.getElem?_eq_none (by simpa [hw] using Nat.le_of_not_lt h)]; decide

theorem extraCount_le {len : Nat} {dict : Byte} (h : legalDict dict = true) : extraCount len dict ≤ 6 := by
  unfold extraCount; simp only [legalDict, Bool.and_eq_true, decide_eq_true_eq] at h
  have := h.2; rw [hw_dictMax] at this
  split <;> omega

theorem readLength_reads {h : Bool} {s : State} (hr : ReaderOk s) (ht : s.table .len = fixedTable .len) :
    Reads h s (readLength s) ((takeCode .len s.bits).bind fun p =>
      (takeGroup (lenExtra p.1) p.2).bind fun q => .ok (lenOf p.1 q.1, q.2)) :=
  (decodeSym_reads hr ht).bind fun _ _ htr _ _ =>
    (takeBits_reads htr (Nat.le_trans (lenExtra_le _) (by decide))).bind fun _ _ hur _ _ =>
      Reads.pure hur rfl

theorem readDistance_reads {h : Bool} {x : Nat} {s : State} (hr : ReaderOk s) (hx : x ≤ 16)
    (ht : s.table .dist = fixedTable .dist) :
    Reads h s (readDistance x s) ((takeCode .dist s.bits).bind fun p =>
      (takeGroup x p.2).bind fun q => .ok (BitVec.ofNat 13 (distOf p.1 x q.1), q.2)) :=
  (decodeSym_reads hr ht).bind fun _ _ htr _ _ =>
    (takeBits_reads htr hx).bind fun _ _ hur _ _ => Reads.pure hur rfl

/-- A read that ends in a choice. -/
theorem Reads.ite {h : Bool} {s : State} {p : Prop} [Decidable p] {r r' : Res α} {x x' : Except Reject (α × Bits)}
    (hy : p → Reads h s r x) (hn : ¬ p → Reads h s r' x') :
    Reads h s (if p then r else r') (if p then x else x') := by
  by_cases hp : p
  · rw [if_pos hp, if_pos hp]; exact hy hp
  · rw [if_neg hp, if_neg hp]; exact hn hp

theorem fetchPair_reads {s : State} (hr : ReaderOk s) (ht : TablesFixed s)
    (hd : legalDict s.dict = true) : Reads false s (fetchPair s) (decodePair s.dict s.bits) := by
  have e : decodePair s.dict s.bits =
      ((takeCode .len s.bits).bind fun p =>
        (takeGroup (lenExtra p.1) p.2).bind fun q => .ok (lenOf p.1 q.1, q.2)).bind fun p =>
        if p.1 = hw.endLen then .ok (.endMark, p.2) else
        ((takeCode .dist p.2).bind fun q =>
          (takeGroup (extraCount p.1 s.dict) q.2).bind fun r =>
            .ok (BitVec.ofNat 13 (distOf q.1 (extraCount p.1 s.dict) r.1), r.2)).bind fun q =>
          if p.1 = 2 then .ok (.match2 q.1, q.2)
          else .ok (.matchN (BitVec.ofNat 10 p.1) q.1, q.2) := by
    unfold decodePair
    cases takeCode .len s.bits with
    | error e => rfl
    | ok p =>
      simp only [Except.bind, bind]
      cases takeGroup (lenExtra p.1) p.2 with
      | error e => rfl
      | ok q =>
        simp only
        split
        · rfl
        · cases takeCode .dist q.2 with
          | error e => rfl
          | ok r =>
            simp only
            cases takeGroup (extraCount (lenOf p.1 q.1) s.dict) r.2 <;> rfl
  rw [e]
  unfold fetchPair
  refine (readLength_reads hr (ht .len)).bind fun len t htr hk _ => ?_
  refine Reads.ite (fun _ => Reads.pure htr rfl) fun _ => ?_
  have hdict : t.dict = s.dict := (hk.2 rfl).2
  rw [← hdict]
  refine (readDistance_reads htr (Nat.le_trans (extraCount_le (hdict ▸ hd)) (by decide))
    ((hk.1.table .dist).trans (ht .dist))).bind fun dist u hur _ _ => ?_
  exact Reads.ite (fun _ => Reads.pure hur rfl) fun _ => Reads.pure hur rfl

theorem fetchToken_reads {s : State} (hr : ReaderOk s) (ht : TablesFixed s)
    (hd : legalDict s.dict = true) :
    Reads false s (fetchToken s) (decode (.token s.lit s.dict) s.bits) := by
  unfold fetchToken
  have e : decode (.token s.lit s.dict) s.bits = (takeGroup 1 s.bits).bind fun p =>
      if p.1 = 0 then decodeLiteral s.lit p.2 else decodePair s.dict p.2 := by
    match s.bits with
    | [] => rfl
    | false :: bits => rfl
    | true :: bits => rfl
  rw [e]
  refine (takeBits_reads hr (by decide)).bind fun c t htr hk _ => ?_
  obtain ⟨hl, hd'⟩ := hk.2 rfl
  rw [← hl, ← hd']
  exact Reads.ite (fun _ => fetchLiteral_reads htr ((hk.1.table .lit).trans (ht .lit)))
    fun _ => fetchPair_reads htr (fun a => (hk.1.table a).trans (ht a)) (hd' ▸ hd)

theorem fetchCode_reads {a : Alphabet} {s : State} (hr : ReaderOk s) (ht : s.table a = fixedTable a) :
    Reads false s (fetchCode a s) (decode (.code a) s.bits) := by
  have h := (decodeSym_reads (h := false) hr ht).bind (f := fun k s =>
      match (codeInstrs a)[k]? with | some i => .ok i s | none => .raised .invalidCode s)
    (g := fun p => match (codeInstrs a)[p.1]? with
      | some i => .ok (i, p.2) | none => .error .invalidCode)
    fun k t htr _ _ => by
      show Reads _ _ (match (codeInstrs a)[k]? with | some i => .ok i t | none => .raised .invalidCode t)
        (match (codeInstrs a)[k]? with
          | some i => .ok (i, t.bits) | none => .error .invalidCode)
      cases (codeInstrs a)[k]? with
      | some i => exact Reads.pure htr rfl
      | none => exact ⟨t, rfl, .refl _ _, rfl⟩
  exact h

/-- The contexts a state can be read in: the running session's, and a code asked for (log 10). -/
def InContext (ctx : Ctx) (s : State) : Prop := ctx = s.ctx ∨ ∃ a, ctx = .code a

/-- Whether the context is the header's. -/
def isHeader : Ctx → Bool
  | .header => true
  | _ => false

/-- Fetching in a context does to the core what the decoder does to the stream ahead. -/
theorem fetch_reads {ctx : Ctx} {s : State} (hr : ReaderOk s) (ht : TablesFixed s)
    (hc : InContext ctx s) (hl : ctx.legal = true) :
    Reads (isHeader ctx) s (fetch ctx s) (decode ctx s.bits) := by
  match ctx, hc, hl with
  | .header, _, _ => exact fetchHeader_reads hr
  | .code a, _, _ => exact fetchCode_reads hr (ht a)
  | .token lit dict, .inl hc, hl =>
    have : lit = s.lit ∧ dict = s.dict := by
      unfold State.ctx at hc
      split at hc
      · cases hc; exact ⟨rfl, rfl⟩
      · cases hc
    rw [this.1, this.2] at hl ⊢
    simp only [Ctx.legal, Bool.and_eq_true] at hl
    exact fetchToken_reads hr ht hl.2

end Sys2Proof.Machine
end

