-- ==== Sys2Proof/Laws/History.lean ====
section
/-! SUPPORT. What the window operations do to the history of emitted bytes (R43, R200, R202). -/

namespace Sys2Proof.Machine

theorem out_append (s t : State) (bytes : List Byte) (f : Bool)
    (h : t.pushes = s.pushes ++ [(bytes, f)]) : t.out = s.out ++ if f then [] else bytes := by
  simp [State.out, h]

theorem sinkAccepts_next {s : State} (h : s.sinkAccepts) : s.nextAnswer = false := by
  unfold State.nextAnswer
  cases hs : s.sink with
  | nil => rfl
  | cons f fs => exact h f (by rw [hs]; exact List.mem_cons_self ..)

theorem sinkAccepts_tail {s t : State} (h : s.sinkAccepts) (ht : t.sink = s.sink.tail) :
    t.sinkAccepts := fun f hf => h f (List.mem_of_mem_tail (ht ▸ hf))

/-- The window read at a position of the history still held. -/
theorem recent_stored {s : State} {e : List Byte} {b : Byte} (h : History s e) {p : Nat}
    (hp : p < e.length + 1) (hq : e.length + 1 ≤ p + hw.winSize) :
    (s.stored b).win.read (p % hw.winSize) = (e ++ [b])[p]? := by
  show ((s.win.write (s.next.toNat % hw.winSize) b).read _) = _
  have hn := h.next
  by_cases hpe : p = e.length
  · subst hpe
    rw [hn, Nat.mod_mod, read_write_same]; simp
  · have hr := h.recent p (by omega) (by omega)
    rw [hw_winSize] at *
    rw [read_write_other _ _ (by omega), hr, List.getElem?_append_left (by omega)]

/-- The cursor after a byte, in the history's terms. -/
theorem History.next_add {s : State} {e : List Byte} (h : History s e) :
    (s.next + 1).toNat = s.next.toNat + 1 := by
  rw [BitVec.toNat_add, h.next]; simp only [hw_winSize]; simp; omega

/-- When a byte fills the window, the window's content is the history since the last push. -/
theorem stored_run {s : State} {e : List Byte} (b : Byte) (h : History s e)
    (hfill : (s.next + 1).toNat = hw.winSize) :
    (s.stored b).win.readRun 0 (s.stored b).next.toNat =
      some ((e ++ [b]).drop (e.length / hw.winSize * hw.winSize)) := by
  have hn := h.next
  have hN := h.next_add
  have hlen : e.length % 4096 = 4095 := by rw [hN] at hfill; rw [hw_winSize] at hfill hn; omega
  have hread : ∀ i < hw.winSize, (s.stored b).win.read i = (e ++ [b])[e.length / 4096 * 4096 + i]? := by
    intro i hi
    rw [hw_winSize] at hi
    have := recent_stored (b := b) h (p := e.length / 4096 * 4096 + i) (by omega)
      (by rw [hw_winSize]; omega)
    rwa [hw_winSize, show (e.length / 4096 * 4096 + i) % 4096 = i by omega] at this
  show (s.stored b).win.readRun 0 (s.next + 1).toNat = _
  rw [hfill]
  obtain ⟨bs, h1, h2, h3⟩ := readRun_eq_some (m := (s.stored b).win) (n := hw.winSize) (a := 0)
    fun i hi => by
      rw [Nat.zero_add, Nat.mod_eq_of_lt hi, hread i hi]
      rw [hw_winSize] at hi
      rw [List.getElem?_eq_getElem (by simp; omega)]; rfl
  rw [h1, Option.some.injEq]
  refine List.ext_getElem? fun i => ?_
  by_cases hi : i < hw.winSize
  · have := h3 i hi
    rw [Nat.zero_add, Nat.mod_eq_of_lt hi, hread i hi] at this
    rw [← this, List.getElem?_drop, hw_winSize]
  · rw [List.getElem?_eq_none (by omega), List.getElem?_eq_none]
    rw [hw_winSize] at *
    simp only [List.length_drop, List.length_append, List.length_singleton]; omega

/-- What `putByte` does to a history (R193, R197, R200): the byte joins it, or it fills the window and the
push of the history since the last push fails. -/
theorem putByte_history_cases {s : State} {e : List Byte} (b : Byte) (h : History s e) :
    (∃ t, putByte b s = .ok () t ∧ History t (e ++ [b]) ∧
      (t.sink = s.sink ∨ t.sink = s.sink.tail) ∧ ∀ o, Flushed s o e → Flushed t o (e ++ [b])) ∨
    ((s.next + 1).toNat = hw.winSize ∧ s.nextAnswer = true ∧
      ∃ t, putByte b s = .raised .outputError t ∧
        t.bus = s.bus ++ [.push ((e ++ [b]).drop (e.length / hw.winSize * hw.winSize)) true]) := by
  have hn := h.next
  have hN := h.next_add
  by_cases hfill : (s.next + 1).toNat = hw.winSize
  · have hlen : e.length % 4096 = 4095 := by rw [hN] at hfill; rw [hw_winSize] at hfill hn; omega
    have hrun := stored_run b h hfill
    have hne : (s.stored b).next.toNat ≠ 0 := by
      show (s.next + 1).toNat ≠ 0
      omega
    have hb : (s.stored b).nextAnswer = s.nextAnswer := rfl
    have hflush := flush_push hne hrun
    rw [hb] at hflush
    rw [putByte_fill hfill, hflush]
    cases hans : s.nextAnswer with
    | true =>
      refine .inr ⟨hfill, rfl, _, by rw [if_pos rfl, Res.bind_raised], ?_⟩
      rw [push_eq, hb, hans]; rfl
    | false =>
      refine .inl ⟨_, by rw [if_neg (by decide), Res.bind_ok], ⟨?_, ?_, ?_⟩, .inr ?_, ?_⟩
      · simp only [hw_winSize, List.length_append, List.length_singleton]
        simp; omega
      · simp only [List.length_append, List.length_singleton, hw_winSize]
        symm; rw [decide_eq_false_iff_not]; omega
      · intro p hp hq
        simp only [List.length_append, List.length_singleton] at hp hq
        rw [push_eq]
        exact recent_stored h hp hq
      · rw [push_eq]; rfl
      · intro o ho
        unfold Flushed at *
        rw [out_append s _ _ false (by
          have := push_pushes ((e ++ [b]).drop (e.length / hw.winSize * hw.winSize)) (s.stored b)
          rw [hb, hans] at this
          exact this), ho]
        simp only [Bool.false_eq_true, if_false, List.append_assoc, List.append_cancel_left_eq, hw_winSize]
        rw [List.take_of_length_le (l := e ++ [b]) (by simp; omega)]
        conv_rhs => rw [← List.take_append_drop (e.length / 4096 * 4096) (e ++ [b])]
        rw [List.take_append_of_le_length (by omega)]
  · have hlen : e.length % 4096 ≠ 4095 := by rw [hN] at hfill; rw [hw_winSize] at hfill hn; omega
    refine .inl ⟨s.stored b, putByte_plain hfill, ⟨?_, ?_, ?_⟩, .inl rfl, ?_⟩
    · show (s.next + 1).toNat = _
      rw [hN, hn]; simp only [hw_winSize, List.length_append, List.length_singleton]; omega
    · show s.firstFill = _
      rw [h.fill, decide_eq_decide]; simp only [hw_winSize, List.length_append, List.length_singleton]
      omega
    · intro p hp hq
      simp only [List.length_append, List.length_singleton] at hp hq
      exact recent_stored h hp hq
    · intro o ho
      unfold Flushed at *
      show s.out = _
      rw [ho]
      simp only [hw_winSize, List.length_append, List.length_singleton]
      rw [show (e.length + 1) / 4096 = e.length / 4096 by omega, List.take_append_of_le_length (by omega)]

/-- A byte emitted with a value joins the history. -/
theorem putByte_ok_history {s t : State} {e : List Byte} {b : Byte} (h : History s e)
    (hp : putByte b s = .ok () t) :
    History t (e ++ [b]) ∧ ∀ o, Flushed s o e → Flushed t o (e ++ [b]) := by
  rcases putByte_history_cases b h with ⟨u, hu, hh, _, hf⟩ | ⟨_, _, u, hu, _⟩
  · rw [hp] at hu; cases hu; exact ⟨hh, hf⟩
  · rw [hp] at hu; cases hu

/-- A byte emitted into an accepting sink's window joins the history (R193, R197, R200). -/
theorem putByte_history {s : State} {e : List Byte} (b : Byte) (h : History s e) (ha : s.sinkAccepts) :
    ∃ t, putByte b s = .ok () t ∧ History t (e ++ [b]) ∧ t.sinkAccepts ∧
      ∀ o, Flushed s o e → Flushed t o (e ++ [b]) := by
  rcases putByte_history_cases b h with ⟨u, hu, hh, hs, hf⟩ | ⟨_, hn, _⟩
  · refine ⟨u, hu, hh, ?_, hf⟩
    rcases hs with hs | hs
    · intro f hf'; exact ha f (hs ▸ hf')
    · exact sinkAccepts_tail ha hs
  · rw [sinkAccepts_next ha] at hn; cases hn

/-- The byte a copy reads is the one emitted `dist` positions ago (R200). -/
theorem readWin_source {s : State} {e : List Byte} (h : History s e) (h1 : 1 ≤ s.mdist.toNat)
    (h2 : s.mdist.toNat ≤ e.length) (h3 : s.mdist.toNat ≤ hw.winSize) :
    readWin s.sourceIndex s = .ok (e.getD (e.length - s.mdist.toNat) 0) s := by
  have hn := h.next
  have hr := h.recent (e.length - s.mdist.toNat) (by omega) (by omega)
  rw [List.getElem?_eq_getElem (by omega)] at hr
  have hs : s.sourceIndex % hw.winSize = (e.length - s.mdist.toNat) % hw.winSize := by
    unfold State.sourceIndex; rw [hn]; rw [hw_winSize] at *; omega
  unfold readWin
  rw [hs, hr]
  simp [List.getD_eq_getElem?_getD, show e.length - s.mdist.toNat < e.length by omega]

/-- The moves of a copy append what R199 and R200 say, and store only at the cursor's addresses. -/
theorem copyLoop_history : ∀ (n : Nat) {s : State} {e : List Byte}, History s e → s.sinkAccepts →
    1 ≤ s.mdist.toNat → s.mdist.toNat ≤ e.length → s.mdist.toNat ≤ hw.winSize → n < 1024 →
    ∃ t, copyLoop n s = .ok () t ∧ History t (expand n s.mdist.toNat e) ∧ t.sinkAccepts ∧
      (n ≠ 0 → t.mlen = 0) ∧ (∀ o, Flushed s o e → Flushed t o (expand n s.mdist.toNat e)) ∧
      ∀ a, (∀ i < n, a ≠ (s.next.toNat + i) % hw.winSize) → t.win.read a = s.win.read a := by
  intro n
  induction n with
  | zero =>
    intro s e h ha _ _ _ _
    exact ⟨s, rfl, h, ha, fun h => absurd rfl h, fun _ h => h, fun _ _ => rfl⟩
  | succ n ih =>
    intro s e h ha h1 h2 h3 hn
    have hread := readWin_source h h1 h2 h3
    obtain ⟨u, hu, hh, hua, huf⟩ := putByte_history (e.getD (e.length - s.mdist.toNat) 0) h ha
    have hframe := putByte_frame hu
    have hwin := putByte_win hu
    have hd : u.mdist = s.mdist := by unfold SameButWindow at hframe; rw [hframe]
    let v : State := { u with mlen := BitVec.ofNat 10 n }
    have hv : History v (e ++ [e.getD (e.length - s.mdist.toNat) 0]) := ⟨hh.next, hh.fill, hh.recent⟩
    have hvd : v.mdist = s.mdist := hd
    obtain ⟨t, ht, kh, ka, km, kf, kw⟩ := ih (s := v) hv hua (by rw [hvd]; exact h1)
      (by rw [hvd]; simp; omega) (by rw [hvd]; exact h3) (by omega)
    rw [hvd] at kh kf
    refine ⟨t, ?_, kh, ka, fun _ => ?_, fun o ho => kf o (huf o ho), fun a hne => ?_⟩
    · rw [copyLoop, hread, Res.bind_ok, hu, Res.bind_ok]; exact ht
    · by_cases h0 : n = 0
      · subst h0; injection ht with _ ht; rw [← ht]; rfl
      · exact km h0
    · have hnext : v.next.toNat = (s.next.toNat + 1) % hw.winSize := by
        have e1 := hh.next
        have e2 := h.next
        rw [hw_winSize] at *
        simp only [List.length_append, List.length_singleton] at e1
        show u.next.toNat = _
        omega
      rw [kw a fun i hi => by
        have := hne (i + 1) (by omega)
        rw [hnext]; rw [hw_winSize] at *; omega]
      show u.win.read a = _
      rw [hwin, read_write_other]
      have := hne 0 (by omega)
      rwa [Nat.add_zero] at this

/-- A copy that ends with a value appends what R199 and R200 say, whatever the sink answered. -/
theorem copyLoop_ok_history : ∀ (n : Nat) {s t : State} {e : List Byte}, History s e →
    1 ≤ s.mdist.toNat → s.mdist.toNat ≤ e.length → s.mdist.toNat ≤ hw.winSize → copyLoop n s = .ok () t →
    History t (expand n s.mdist.toNat e) ∧
      ∀ o, Flushed s o e → Flushed t o (expand n s.mdist.toNat e) := by
  intro n
  induction n with
  | zero => intro s t e h _ _ _ hc; injection hc with _ hc; subst hc; exact ⟨h, fun _ h => h⟩
  | succ n ih =>
    intro s t e h h1 h2 h3 hc
    rw [copyLoop, readWin_source h h1 h2 h3, Res.bind_ok, Res.bind_eq_ok] at hc
    obtain ⟨_, u, hu, hc⟩ := hc
    obtain ⟨hh, hf⟩ := putByte_ok_history h hu
    have hd : u.mdist = s.mdist := by have := putByte_frame hu; unfold SameButWindow at this; rw [this]
    have hd' : ({ u with mlen := BitVec.ofNat 10 n } : State).mdist = s.mdist := hd
    have := ih (s := { u with mlen := BitVec.ofNat 10 n }) ⟨hh.next, hh.fill, hh.recent⟩
      (by rw [hd']; exact h1) (by rw [hd']; simp; omega) (by rw [hd']; exact h3) hc
    rw [hd'] at this
    exact ⟨this.1, fun o ho => this.2 o (hf o ho)⟩

/-- A copy with its operands in range (R195, R199, R200). -/
theorem copy_history {s : State} {e : List Byte} {len : BitVec 10} {dist : BitVec 13}
    (h : History s e) (ha : s.sinkAccepts) (h1 : 1 ≤ dist.toNat) (h2 : dist.toNat ≤ e.length)
    (h3 : dist.toNat ≤ hw.winSize) :
    ∃ t, copy len dist s = .ok () t ∧ History t (expand len.toNat dist.toNat e) ∧ t.sinkAccepts ∧
      t.mlen = 0 ∧ t.mdist = dist ∧ (∀ o, Flushed s o e → Flushed t o (expand len.toNat dist.toNat e)) ∧
      SameButWindow { s with mlen := len, mdist := dist } t ∧
      ∀ a, (∀ i < len.toNat, a ≠ (s.next.toNat + i) % hw.winSize) → t.win.read a = s.win.read a := by
  obtain ⟨t, ht, kh, ka, km, kf, kw⟩ := copyLoop_history len.toNat
    (s := { s with mlen := len, mdist := dist }) (e := e) ⟨h.next, h.fill, h.recent⟩ ha h1 h2 h3 len.isLt
  have hfr := copyLoop_frame ht
  refine ⟨t, ht, kh, ka, ?_, ?_, kf, hfr, kw⟩
  · by_cases h0 : len.toNat = 0
    · rw [h0] at ht; cases ht
      exact BitVec.eq_of_toNat_eq h0
    · exact km h0
  · unfold SameButWindow at hfr; rw [hfr]

end Sys2Proof.Machine
end

