-- ==== Sys2Proof/Laws/Step.lean ====
section
/-! SUPPORT. What one step does, by what waits at the interfaces and where the FSM stands; and what a
fetch may change in any state whatever. -/

namespace Sys2Proof.Machine

variable {α β : Type}

/-! ### The cases of a step -/

/-- Whether the boot build is still to come (R292). -/
def State.booting (s : State) : Bool := s.state == .idle && !s.tablesBuilt

theorem step_hardReset {s : State} (h : s.req = some .hardReset) : step s = .next s.hardReset := by
  unfold step cycle; rw [h]

@[simp] theorem isStart_start : (Request.issue .start).isStart = true := decide_eq_true rfl

theorem isStart_other {r : Request} (h : r ≠ .issue .start) : r.isStart = false := decide_eq_false h

theorem step_boot {s : State} (hr : s.req ≠ some .hardReset) (hs : s.req ≠ some (.issue .start))
    (hb : s.booting = true) : step s = (boot s).toOutcome := by
  unfold State.booting at hb
  unfold step cycle
  split
  · contradiction
  · rename_i r _ h
    rw [if_pos hb, isStart_other fun e => hs (by rw [h, e]), if_neg Bool.false_ne_true]
  · rw [if_pos hb]

/-- A `start` before the tables are built is refused (R293). -/
theorem step_start_booting {s : State} (h : s.req = some (.issue .start)) (hb : s.booting = true) :
    step s = .refused .startBeforeTables := by
  simp only [State.booting, Bool.and_eq_true, beq_iff_eq, Bool.not_eq_true'] at hb
  simp [step, cycle, h, hb, exec, execStart, State.running]

theorem step_serve {s : State} {r : Request} (h : s.req = some r) (hr : r ≠ .hardReset)
    (hb : s.booting = false) (he : s.ended = false ∨ r.isStart = true) :
    step s = serve r { s with req := none } := by
  unfold State.booting at hb
  unfold step cycle
  split
  · rename_i h'; rw [h'] at h; cases h; contradiction
  · rename_i r' _ h'; rw [h'] at h; cases h; rw [hb]
    rcases he with he | he <;> simp [he]
  · rename_i h'; rw [h'] at h; cases h

/-- After a session's end a request other than `start` changes nothing (R232, R260). -/
theorem step_ended {s : State} {r : Request} (h : s.req = some r) (hr : r ≠ .hardReset)
    (hs : r ≠ .issue .start) (he : s.ended = true) : step s = .next { s with req := none } := by
  have hi : s.state ≠ .idle := by
    unfold State.ended at he; split at he <;> simp_all
  unfold step cycle
  split
  · rename_i h'; rw [h'] at h; cases h; contradiction
  · rename_i r' _ h'; rw [h'] at h; cases h; simp [hi, he, isStart_other hs]
  · rename_i h'; rw [h'] at h; cases h

theorem step_issue {s : State} {i : Instr} (h : s.req = some (.issue i)) (hi : isOperation i = true)
    (hb : s.booting = false) (he : s.ended = false ∨ i = .start) :
    step s = exec i { s with req := none } := by
  rw [step_serve h (by simp) hb (he.imp_right fun e => by rw [e, isStart_start]), serve, if_pos hi]

theorem step_none {s : State} (h : s.req = none) (hb : s.booting = false) : step s = runSession s := by
  unfold State.booting at hb
  unfold step cycle
  rw [h]
  simp only [hb]; rfl

theorem booting_running {s : State} (h : s.running = true) : s.booting = false := by
  unfold State.running at h; unfold State.booting
  split at h <;> simp_all

theorem step_session {s : State} (h : s.req = none) (hs : s.running = true) :
    step s = runFetched (fetch s.ctx s) := by
  rw [step_none h (booting_running hs), runSession]
  unfold State.running at hs
  split at hs <;> simp_all

theorem step_quiet {s : State} (h : s.req = none) (hs : s.running = false) (hb : s.booting = false) :
    step s = .next s := by
  rw [step_none h hb, runSession]
  unfold State.running at hs
  split at hs <;> simp_all

/-! ### What a fetch may change, in any state -/

/-- Every state an operation leaves, with a value or a raise, has a property. -/
def Res.All (P : State → Prop) : Res α → Prop
  | .ok _ t => P t
  | .raised _ t => P t
  | .fault _ => True
  | .refused _ => True

theorem Res.All.bind {P : State → Prop} {r : Res α} {f : α → State → Res β} (h : r.All P)
    (hf : ∀ a t, P t → (f a t).All P) : (r.bind f).All P := by
  cases r with
  | ok a t => exact hf a t h
  | raised k t => exact h
  | fault x => trivial
  | refused x => trivial

/-- What reading the stream may change, and no push is made (R139). -/
def ReadOnly (h : Bool) (s t : State) : Prop := FetchKeeps h s t ∧ t.pushes = s.pushes

theorem ReadOnly.refl (h : Bool) (s : State) : ReadOnly h s s := ⟨.refl h s, rfl⟩

theorem ReadOnly.trans {h : Bool} {s t u : State} (a : ReadOnly h s t) (b : ReadOnly h t u) :
    ReadOnly h s u := ⟨a.1.trans b.1, b.2.trans a.2⟩

theorem ReadOnly.mk' {h : Bool} {s t : State}
    (e : t = { s with bitbuf := t.bitbuf, bitcnt := t.bitcnt, inq := t.inq, src := t.src, bus := t.bus,
                      consumed := t.consumed, mlen := t.mlen, mdist := t.mdist, sym := t.sym,
                      code := t.code, firstc := t.firstc, index := t.index, clen := t.clen,
                      fresh := t.fresh })
    (hp : t.pushes = s.pushes) : ReadOnly h s t :=
  ⟨⟨by unfold SameButFetch; rw [e], fun _ => by rw [e]; exact ⟨rfl, rfl⟩⟩, hp⟩

theorem fetchByte_all (h : Bool) (s : State) : (fetchByte s).All (ReadOnly h s) := by
  unfold fetchByte
  split
  · exact ReadOnly.mk' rfl rfl
  · unfold pull
    split
    · rename_i h; split at h <;> cases h <;>
        exact ReadOnly.mk' rfl (by simp [State.pushes, pushesOf])
    · rename_i h; split at h <;> cases h
      exact ReadOnly.mk' rfl (by simp [State.pushes, pushesOf])

theorem refill_all (h : Bool) (fuel n : Nat) : ∀ (val : BitVec 23) (s : State),
    (refill fuel n val s).All (ReadOnly h s) := by
  induction fuel with
  | zero => intro _ s; exact .refl h s
  | succ fuel ih =>
    intro val s
    unfold refill
    split
    · refine (fetchByte_all h s).bind fun b t ht => ?_
      have := ih (val ||| (b.setWidth 23 <<< t.bitcnt.toNat)) { t with bitcnt := t.bitcnt + 8 }
      have h2 : ReadOnly h t { t with bitcnt := t.bitcnt + 8 } := ReadOnly.mk' rfl rfl
      revert this
      cases refill fuel n (val ||| (b.setWidth 23 <<< t.bitcnt.toNat)) { t with bitcnt := t.bitcnt + 8 } with
      | ok a u => exact fun k => ht.trans (h2.trans k)
      | raised a u => exact fun k => ht.trans (h2.trans k)
      | fault _ => exact fun _ => trivial
      | refused _ => exact fun _ => trivial
    · exact .refl h s

/-- An operation that reads and then goes on reading only reads. -/
theorem Res.All.andThen {h : Bool} {s : State} {r : Res α} {f : α → State → Res β}
    (e : r.All (ReadOnly h s)) (hf : ∀ a t, (f a t).All (ReadOnly h t)) :
    (r.bind f).All (ReadOnly h s) :=
  e.bind fun a t ht => by
    have := hf a t
    revert this
    cases f a t with
    | ok a u => exact fun k => ht.trans k
    | raised a u => exact fun k => ht.trans k
    | fault _ => exact fun _ => trivial
    | refused _ => exact fun _ => trivial

theorem takeBits_all (h : Bool) (n : Nat) (s : State) : (takeBits n s).All (ReadOnly h s) := by
  unfold takeBits
  split
  · trivial
  · exact (refill_all h 2 n s.bitbuf s).andThen fun _ _ => ReadOnly.mk' rfl rfl

theorem decodeWalk_all (h : Bool) (symbol : List Nat) (absent : Nat) : ∀ (counts : List Nat) (code firstc index : Nat)
    (s : State), (decodeWalk symbol absent counts code firstc index s).All (ReadOnly h s) := by
  intro counts
  induction counts with
  | nil => intro _ _ _ s; exact .refl h s
  | cons cnt counts ih =>
    intro code firstc index s
    refine (takeBits_all h 1 s).andThen fun t u => ?_
    simp only
    split
    · exact .refl h u
    · exact ih _ _ _ u

theorem decodeSym_all (h : Bool) (a : Alphabet) (s : State) : (decodeSym a s).All (ReadOnly h s) := by
  unfold decodeSym
  split
  · trivial
  · exact (decodeWalk_all h _ _ _ _ _ _ s).andThen fun _ _ => ReadOnly.mk' rfl rfl

theorem readByteField_all (h : Bool) (s : State) : (readByteField s).All (ReadOnly h s) :=
  (takeBits_all h 8 s).andThen fun _ _ => .refl h _

/-- In the header context the two fields may change. -/
theorem ReadOnly.header {s t : State} (e : t = { s with lit := t.lit, dict := t.dict }) :
    ReadOnly true s t := ⟨⟨by unfold SameButFetch; rw [e], by simp⟩, by rw [e]; rfl⟩

theorem headerLit_all (b : Byte) (s : State) : (headerLit b s).All (ReadOnly true s) := by
  unfold headerLit
  simp only
  split <;> exact ReadOnly.header rfl

theorem headerDict_all (b : Byte) (s : State) : (headerDict b s).All (ReadOnly true s) := by
  unfold headerDict
  simp only
  split <;> exact ReadOnly.header rfl

theorem fetchHeader_all (s : State) : (fetchHeader s).All (ReadOnly true s) :=
  (readByteField_all true s).andThen fun lit _ => (headerLit_all lit _).andThen fun _ t =>
    (readByteField_all true t).andThen fun dict _ => (headerDict_all dict _).andThen fun _ u =>
      .refl true u

theorem fetchLiteral_all (s : State) : (fetchLiteral s).All (ReadOnly false s) := by
  unfold fetchLiteral
  split
  · exact (decodeSym_all false .lit s).andThen fun _ t => .refl false t
  · exact (readByteField_all false s).andThen fun _ t => .refl false t

theorem fetchPair_all (s : State) : (fetchPair s).All (ReadOnly false s) := by
  refine Res.All.andThen ?_ fun len t => ?_
  · exact (decodeSym_all false .len s).andThen fun k t =>
      (takeBits_all false (lenExtra k) t).andThen fun _ _ => ReadOnly.mk' rfl rfl
  · split
    · exact .refl false t
    · refine Res.All.andThen ?_ fun dist u => ?_
      · exact (decodeSym_all false .dist t).andThen fun k u =>
          (takeBits_all false _ u).andThen fun _ _ => ReadOnly.mk' rfl rfl
      · split <;> exact .refl false u

/-- A fetch, in any state, changes only what reading the stream may change. -/
theorem fetch_all (ctx : Ctx) (s : State) : (fetch ctx s).All (ReadOnly (isHeader ctx) s) := by
  match ctx with
  | .header => exact fetchHeader_all s
  | .token _ _ =>
    refine (takeBits_all false 1 s).andThen fun c t => ?_
    split
    · exact fetchLiteral_all t
    · exact fetchPair_all t
  | .code a =>
    refine (decodeSym_all false a s).andThen fun k t => ?_
    split <;> exact .refl false t

end Sys2Proof.Machine
end

