-- ==== Sys2Proof/Tests/Slice0.lean ====
section
/-! SUPPORT. The model's own tests: well-formedness, decoding, one step of each instruction against the
spec's worked examples and vectors, and for each obligation with hypotheses a state that meets them. -/

namespace Sys2Proof.Tests

open Sys2Proof Sys2Proof.Machine

set_option Elab.async false

/-! ### Well-formedness: an ill-formed term for each check, refused (R91, R93, R97, R100, R130, R150, R151, R195) -/

theorem smoke_hdr : (Instr.hdr 2 4).wellFormed = false ∧ (Instr.hdr 0 3).wellFormed = false ∧
    (Instr.hdr 0 7).wellFormed = false ∧ (Instr.hdr 1 6).wellFormed = true := by decide

theorem smoke_match2 : (Instr.match2 0).wellFormed = false ∧ (Instr.match2 257).wellFormed = false ∧
    (Instr.match2 256).wellFormed = true := by decide

theorem smoke_match : (Instr.matchN 2 1).wellFormed = false ∧ (Instr.matchN 519 1).wellFormed = false ∧
    (Instr.matchN 3 0).wellFormed = false ∧ (Instr.matchN 3 4097).wellFormed = false ∧
    (Instr.matchN 518 4096).wellFormed = true := by decide

theorem smoke_takeBits : (Instr.takeBits 17).wellFormed = false ∧ (Instr.takeBits 16).wellFormed = true := by
  decide

theorem smoke_construct : (Instr.construct .lit (List.replicate 17 0xf9) 257).wellFormed = false ∧
    (Instr.construct .len [0x12] 3).wellFormed = false ∧
    (Instr.construct .len [0x12] 2).wellFormed = true := by decide

theorem smoke_copy : (Instr.copy 0 1).wellFormed = false ∧ (Instr.copy 519 1).wellFormed = false ∧
    (Instr.copy 2 0).wellFormed = false ∧ (Instr.copy 2 4097).wellFormed = false ∧
    (Instr.copy 2 4096).wellFormed = true := by decide

theorem smoke_context : (Ctx.token 2 4).legal = false ∧ (Ctx.token 0 7).legal = false ∧
    (Ctx.token 0 4).holds (.litHuf 0) = false ∧ (Ctx.token 1 4).holds (.litRaw 0) = false ∧
    (Ctx.token 0 4).holds (.matchN 3 1025) = false ∧ (Ctx.token 0 4).holds (.matchN 3 1024) = true ∧
    (Ctx.header).holds .endMark = false ∧ (Ctx.code .len).holds .dist0 = false ∧
    (Ctx.code .len).holds .len15 = true ∧ (Ctx.token 0 4).holds .flush = false := by decide

/-! ### Decoding: words of spec/opcode_table.json, bit 0 the first stream bit -/

/-- Words of code rows: length, word, the row's instruction. -/
abbrev Words := List (Nat × Nat × Instr)

/-- Each word decodes, alone, to its row's instruction. -/
def Decodes (a : Alphabet) (rows : Words) : Prop :=
  ∀ r ∈ rows, decode (.code a) (natBits r.1 r.2.1) = .ok (r.2.2, [])

/-- The same by the loop of R172, which is quicker to evaluate. -/
def walksTo (a : Alphabet) (rows : Words) : Bool :=
  rows.all fun r =>
    match walk (fixedTable a).symbol 0 (fixedTable a).count.tail 0 0 0 (natBits r.1 r.2.1) with
    | .ok (k, []) => (codeInstrs a)[k]? == some r.2.2
    | _ => false

theorem decodes_of_walk {a : Alphabet} {rows : Words} (h : walksTo a rows = true) : Decodes a rows := by
  intro r hr
  have := List.all_eq_true.mp h r hr
  split at this
  · next k hk =>
    rw [walk_fixed] at hk
    simp [decode, hk, bind, Except.bind, eq_of_beq this]
  · cases this

/-- LEN.0 to LEN.15: the words of the table's `LEN` rows. -/
theorem test_decode_len : Decodes .len (
   ([(2, 3, .len0), (3, 5, .len1), (3, 1, .len2), (3, 6, .len3), (4, 10, .len4), (4, 2, .len5), (4, 12, .len6), (5, 20, .len7), (5, 4, .len8), (5, 24, .len9), (5, 8, .len10), (6, 48, .len11), (6, 16, .len12), (6, 32, .len13), (7, 64, .len14), (7, 0, .len15)] : Words)) := decodes_of_walk (by decide +kernel)

/-- DIST.0 to DIST.63: the words of the table's `DIST` rows. -/
theorem test_decode_dist : Decodes .dist (
   ([(2, 3, .dist0), (4, 13, .dist1), (4, 5, .dist2), (5, 25, .dist3), (5, 9, .dist4), (5, 17, .dist5), (5, 1, .dist6), (6, 62, .dist7), (6, 30, .dist8), (6, 46, .dist9), (6, 14, .dist10), (6, 54, .dist11), (6, 22, .dist12), (6, 38, .dist13), (6, 6, .dist14), (6, 58, .dist15)] : Words) ++
   ([(6, 26, .dist16), (6, 42, .dist17), (6, 10, .dist18), (6, 50, .dist19), (6, 18, .dist20), (6, 34, .dist21), (7, 66, .dist22), (7, 2, .dist23), (7, 124, .dist24), (7, 60, .dist25), (7, 92, .dist26), (7, 28, .dist27), (7, 108, .dist28), (7, 44, .dist29), (7, 76, .dist30), (7, 12, .dist31)] : Words) ++
   ([(7, 116, .dist32), (7, 52, .dist33), (7, 84, .dist34), (7, 20, .dist35), (7, 100, .dist36), (7, 36, .dist37), (7, 68, .dist38), (7, 4, .dist39), (7, 120, .dist40), (7, 56, .dist41), (7, 88, .dist42), (7, 24, .dist43), (7, 104, .dist44), (7, 40, .dist45), (7, 72, .dist46), (7, 8, .dist47)] : Words) ++
   ([(8, 240, .dist48), (8, 112, .dist49), (8, 176, .dist50), (8, 48, .dist51), (8, 208, .dist52), (8, 80, .dist53), (8, 144, .dist54), (8, 16, .dist55), (8, 224, .dist56), (8, 96, .dist57), (8, 160, .dist58), (8, 32, .dist59), (8, 192, .dist60), (8, 64, .dist61), (8, 128, .dist62), (8, 0, .dist63)] : Words)) := decodes_of_walk (by decide +kernel)

/-- LIT.0 to LIT.63: the words of the table's `LIT` rows. -/
theorem test_decode_lit_0 : Decodes .lit (
   ([(11, 1168, .lit0), (12, 4064, .lit1), (12, 2016, .lit2), (12, 3040, .lit3), (12, 992, .lit4), (12, 3552, .lit5), (12, 1504, .lit6), (12, 2528, .lit7), (12, 480, .lit8), (8, 184, .lit9), (7, 98, .lit10), (12, 3808, .lit11), (12, 1760, .lit12), (7, 34, .lit13), (12, 2784, .lit14), (12, 736, .lit15)] : Words) ++
   ([(12, 3296, .lit16), (12, 1248, .lit17), (12, 2272, .lit18), (12, 224, .lit19), (12, 3936, .lit20), (12, 1888, .lit21), (12, 2912, .lit22), (12, 864, .lit23), (12, 3424, .lit24), (12, 1376, .lit25), (13, 4672, .lit26), (12, 2400, .lit27), (12, 352, .lit28), (12, 3680, .lit29), (12, 1632, .lit30), (12, 2656, .lit31)] : Words) ++
   ([(4, 15, .lit32), (10, 592, .lit33), (8, 56, .lit34), (12, 608, .lit35), (10, 80, .lit36), (12, 3168, .lit37), (10, 912, .lit38), (8, 216, .lit39), (7, 66, .lit40), (7, 2, .lit41), (8, 88, .lit42), (9, 432, .lit43), (7, 124, .lit44), (6, 41, .lit45), (7, 60, .lit46), (8, 152, .lit47)] : Words) ++
   ([(7, 92, .lit48), (6, 9, .lit49), (7, 28, .lit50), (7, 108, .lit51), (7, 44, .lit52), (7, 76, .lit53), (8, 24, .lit54), (7, 12, .lit55), (7, 116, .lit56), (8, 232, .lit57), (8, 104, .lit58), (12, 1120, .lit59), (11, 144, .lit60), (7, 52, .lit61), (9, 176, .lit62), (11, 1808, .lit63)] : Words)) := decodes_of_walk (by decide +kernel)

/-- LIT.64 to LIT.127: the words of the table's `LIT` rows. -/
theorem test_decode_lit_64 : Decodes .lit (
   ([(12, 2144, .lit64), (6, 49, .lit65), (7, 84, .lit66), (6, 17, .lit67), (6, 33, .lit68), (5, 23, .lit69), (7, 20, .lit70), (8, 168, .lit71), (8, 40, .lit72), (6, 1, .lit73), (11, 784, .lit74), (9, 304, .lit75), (6, 62, .lit76), (7, 100, .lit77), (6, 30, .lit78), (6, 46, .lit79)] : Words) ++
   ([(7, 36, .lit80), (11, 1296, .lit81), (6, 14, .lit82), (6, 54, .lit83), (6, 22, .lit84), (7, 68, .lit85), (9, 48, .lit86), (8, 200, .lit87), (9, 464, .lit88), (9, 208, .lit89), (11, 272, .lit90), (8, 72, .lit91), (11, 1552, .lit92), (9, 336, .lit93), (12, 96, .lit94), (8, 136, .lit95)] : Words) ++
   ([(12, 4000, .lit96), (5, 7, .lit97), (6, 38, .lit98), (6, 6, .lit99), (6, 58, .lit100), (5, 27, .lit101), (6, 26, .lit102), (6, 42, .lit103), (6, 10, .lit104), (5, 11, .lit105), (11, 528, .lit106), (7, 4, .lit107), (5, 19, .lit108), (6, 50, .lit109), (5, 3, .lit110), (5, 29, .lit111)] : Words) ++
   ([(6, 18, .lit112), (10, 400, .lit113), (5, 13, .lit114), (5, 21, .lit115), (5, 5, .lit116), (5, 25, .lit117), (8, 8, .lit118), (7, 120, .lit119), (8, 240, .lit120), (8, 112, .lit121), (10, 656, .lit122), (11, 1040, .lit123), (11, 16, .lit124), (12, 1952, .lit125), (12, 2976, .lit126), (12, 928, .lit127)] : Words)) := decodes_of_walk (by decide +kernel)

/-- LIT.128 to LIT.191: the words of the table's `LIT` rows. -/
theorem test_decode_lit_128 : Decodes .lit (
   ([(13, 576, .lit128), (13, 7232, .lit129), (13, 3136, .lit130), (13, 5184, .lit131), (13, 1088, .lit132), (13, 6208, .lit133), (13, 2112, .lit134), (13, 4160, .lit135), (13, 64, .lit136), (13, 8064, .lit137), (13, 3968, .lit138), (13, 6016, .lit139), (13, 1920, .lit140), (13, 7040, .lit141), (13, 2944, .lit142), (13, 4992, .lit143)] : Words) ++
   ([(13, 896, .lit144), (13, 7552, .lit145), (13, 3456, .lit146), (13, 5504, .lit147), (13, 1408, .lit148), (13, 6528, .lit149), (13, 2432, .lit150), (13, 4480, .lit151), (13, 384, .lit152), (13, 7808, .lit153), (13, 3712, .lit154), (13, 5760, .lit155), (13, 1664, .lit156), (13, 6784, .lit157), (13, 2688, .lit158), (13, 4736, .lit159)] : Words) ++
   ([(13, 640, .lit160), (13, 7296, .lit161), (13, 3200, .lit162), (13, 5248, .lit163), (13, 1152, .lit164), (13, 6272, .lit165), (13, 2176, .lit166), (13, 4224, .lit167), (13, 128, .lit168), (13, 7936, .lit169), (13, 3840, .lit170), (13, 5888, .lit171), (13, 1792, .lit172), (13, 6912, .lit173), (13, 2816, .lit174), (13, 4864, .lit175)] : Words) ++
   ([(12, 3488, .lit176), (12, 1440, .lit177), (12, 2464, .lit178), (12, 416, .lit179), (12, 3744, .lit180), (12, 1696, .lit181), (12, 2720, .lit182), (12, 672, .lit183), (12, 3232, .lit184), (12, 1184, .lit185), (12, 2208, .lit186), (12, 160, .lit187), (12, 3872, .lit188), (12, 1824, .lit189), (12, 2848, .lit190), (12, 800, .lit191)] : Words)) := decodes_of_walk (by decide +kernel)

/-- LIT.192 to LIT.255: the words of the table's `LIT` rows. -/
theorem test_decode_lit_192 : Decodes .lit (
   ([(12, 3360, .lit192), (12, 1312, .lit193), (12, 2336, .lit194), (12, 288, .lit195), (12, 3616, .lit196), (12, 1568, .lit197), (12, 2592, .lit198), (12, 544, .lit199), (12, 3104, .lit200), (12, 1056, .lit201), (12, 2080, .lit202), (12, 32, .lit203), (12, 4032, .lit204), (12, 1984, .lit205), (12, 3008, .lit206), (12, 960, .lit207)] : Words) ++
   ([(12, 3520, .lit208), (12, 1472, .lit209), (12, 2496, .lit210), (12, 448, .lit211), (12, 3776, .lit212), (12, 1728, .lit213), (12, 2752, .lit214), (12, 704, .lit215), (12, 3264, .lit216), (12, 1216, .lit217), (12, 2240, .lit218), (12, 192, .lit219), (12, 3904, .lit220), (12, 1856, .lit221), (12, 2880, .lit222), (12, 832, .lit223)] : Words) ++
   ([(13, 768, .lit224), (12, 3392, .lit225), (13, 7424, .lit226), (13, 3328, .lit227), (13, 5376, .lit228), (12, 1344, .lit229), (13, 1280, .lit230), (13, 6400, .lit231), (13, 2304, .lit232), (12, 2368, .lit233), (13, 4352, .lit234), (13, 256, .lit235), (13, 7680, .lit236), (13, 3584, .lit237), (12, 320, .lit238), (13, 5632, .lit239)] : Words) ++
   ([(13, 1536, .lit240), (13, 6656, .lit241), (12, 3648, .lit242), (12, 1600, .lit243), (12, 2624, .lit244), (13, 2560, .lit245), (13, 4608, .lit246), (13, 512, .lit247), (13, 7168, .lit248), (13, 3072, .lit249), (13, 5120, .lit250), (13, 1024, .lit251), (13, 6144, .lit252), (13, 2048, .lit253), (13, 4096, .lit254), (13, 0, .lit255)] : Words)) := decodes_of_walk (by decide +kernel)

/-- What a word of the table decodes to in a context, with the bits left over. -/
def reads (ctx : Ctx) (bits : Bits) : Option (Instr × Bits) :=
  match decode ctx bits with
  | .ok r => some r
  | .error _ => none

/-- R91: the bytes `01 06`, `lit` in stream bits 0 to 7, `dict` in 8 to 15. -/
theorem test_decode_hdr : reads .header
    ([true, false, false, false, false, false, false, false] ++
     [false, true, true, false, false, false, false, false]) = some (.hdr 1 6, []) := by decide +kernel

/-- R94: control bit 0, then `0x41` least significant bit first. -/
theorem test_decode_litRaw : reads (.token 0 4)
    [false, true, false, false, false, false, false, true, false] = some (.litRaw 0x41, []) := by
  decide +kernel

/-- R95, R113: control bit 0, then `0100011`, the code of `0x0a`. -/
theorem test_decode_litHuf : reads (.token 1 4)
    [false, false, true, false, false, false, true, true] = some (.litHuf 0x0a, []) := by decide +kernel

/-- R97: `1 101`, distance code `00000000` (symbol 63), extra bits `11`: distance 256 whatever `dict`. -/
theorem test_decode_match2 : reads (.token 0 6)
    [true, true, false, true, false, false, false, false, false, false, false, false, true, true] =
    some (.match2 256, []) := by decide +kernel

/-- R96, R217: `1 00100 1`, `11`, `1000`: length 11, distance 2. -/
theorem test_decode_match : reads (.token 0 4)
    [true, false, false, true, false, false, true, true, true, true, false, false, false] =
    some (.matchN 11 2, []) := by decide +kernel

/-- R98: `1 0000000 11111111`; no bit after it is taken. -/
theorem test_decode_end : reads (.token 0 4)
    [true, false, false, false, false, false, false, false,
     true, true, true, true, true, true, true, true, false] = some (.endMark, [false]) := by decide +kernel

/-- R103, R212: `lit` above 1 is rejected before `dict` is read; `dict` 7 is rejected; a missing byte
is the end of input. -/
theorem test_decode_rejects :
    decode .header (byteBits 2) = .error .formatError ∧
    decode .header (byteBits 0) = .error .endOfInput ∧
    decode .header (byteBits 1 ++ byteBits 7) = .error .formatError ∧
    decode (.token 0 4) [true, false] = .error .endOfInput := ⟨rfl, rfl, rfl, rfl⟩

/-- Table words as the host numbers them (R116): `HDR`, `END`, `LIT.RAW`, `LEN.0`, `DIST.63`. -/
theorem test_decodeTableWord :
    decodeTableWord 16 1024 = some (.hdr 0 4) ∧ decodeTableWord 16 65281 = some .endMark ∧
    decodeTableWord 16 0 = some (.litRaw 0) ∧ decodeTableWord 8 3 = some .len0 := by decide +kernel

/-! ### One step of each instruction -/

/-- The core after boot. -/
def ready : State := State.reset.withFixedTables

/-- A session in `DecodeLoop` with raw literals and selector 4, and `input` still to be pulled, one
byte a pull. -/
def session (input : List Byte) : State :=
  { ready with state := .decodeLoop, dict := 4, src := input.map fun b => [b] }

/-- A window whose bytes `win[k ..]` are `bytes`. -/
def bytesAt (k : Nat) : List Byte → Memory
  | [] => []
  | b :: bs => (k, b) :: bytesAt (k + 1) bs

/-- The next state, if that is how the step ended. -/
def after (r : Host.Outcome State Fault Refusal) : Option State :=
  match r with
  | .next s => some s
  | _ => none

/-- The reason, if the step was refused. -/
def refusal (r : Host.Outcome State Fault Refusal) : Option Refusal :=
  match r with
  | .refused x => some x
  | _ => none

theorem exists_next {r : Host.Outcome State Fault Refusal} (h : (after r).isSome = true) :
    ∃ t, r = .next t := by
  cases r with
  | next t => exact ⟨t, rfl⟩
  | fault _ => simp [after] at h
  | refused _ => simp [after] at h

/-- R116. -/
theorem test_readme : refusal (exec .readme ready) = some .notAnInstruction := by decide +kernel

/-- R212: input `00 04`. -/
theorem test_hdr : (after (step { session [0x00, 0x04] with state := .readHeader })).map
    (fun t => (t.state, t.lit, t.dict, t.consumed, t.bitcnt)) =
      some (.decodeLoop, 0, 4, 2, 0) := by decide +kernel

/-- R212: the one-byte input `02` ends in `FormatError`. -/
theorem test_hdr_flag : (after (step { session [0x02] with state := .readHeader })).map
    (fun t => (t.state, t.status)) = some (.error, .failed .formatError) := by decide +kernel

/-- R214: control bit 0 and `0x41`. -/
theorem test_litRaw : (after (step (session [0x82, 0x00]))).map
    (fun t => (t.win, t.next, t.bitcnt)) = some ([(0, 0x41)], 1, 7) := by decide +kernel

/-- R215: `0 1111` emits a space. -/
theorem test_litHuf : (after (step { session [0x1e] with lit := 1 })).map
    (fun t => (t.win, t.next, t.bitcnt)) = some ([(0, 0x20)], 1, 3) := by decide +kernel

/-- R218: window `a b`, stream `1 101 11 10`. -/
theorem test_match2 :
    (after (step { session [0x7b] with win := bytesAt 0 [0x61, 0x62], next := 2 })).map
      (fun t => (t.win, t.next, t.bitcnt)) =
      some (bytesAt 0 [0x61, 0x62, 0x61, 0x62], 4, 0) := by decide +kernel

/-- R217: `dict = 4`, window `A I`, stream `1 00100 1 11 1000`. -/
theorem test_match :
    (after (step { session [0xc9, 0x03] with win := bytesAt 0 [0x41, 0x49], next := 2 })).map
      (fun t => (t.win, t.next, t.bitcnt)) =
      some (bytesAt 0 [0x41, 0x49, 0x41, 0x49, 0x41, 0x49, 0x41, 0x49, 0x41, 0x49, 0x41, 0x49, 0x41], 13, 3) := by
  decide +kernel

/-- P6: `MATCH 3, 3` with two bytes emitted. -/
theorem test_match_too_far :
    (after (exec (.matchN 3 3) { ready with win := bytesAt 0 [0x61, 0x62], next := 2 })).map
      (fun t => (t.state, t.status, t.bus)) =
      some (.error, .failed .distanceTooFar, []) := by decide +kernel

/-- R223, R225: `1 0000000 11111111` with two bytes emitted: one push, `Done`. -/
theorem test_end :
    (after (step { session [0x01, 0xff] with win := bytesAt 0 [0x41, 0x49], next := 2 })).map
      (fun t => (t.state, t.status, t.pushes)) =
      some (.done, .success, [([0x41, 0x49], false)]) := by decide +kernel

/-- R211, R291: after P6's error the second session starts clean. -/
theorem test_start :
    (after (exec .start { ready with
        state := .error, status := .failed .distanceTooFar, bitbuf := 1, bitcnt := 5, next := 2,
        firstFill := false })).map
      (fun t => (t.state, t.bitbuf, t.bitcnt, t.next, t.firstFill)) =
      some (.readHeader, 0, 0, 0, true) := by decide +kernel

/-- V10, second call: `takeBits(8)` after `takeBits(3)` on `a5 3c`. -/
theorem test_takeBits :
    (after (exec (.takeBits 8) { session [0x3c] with bitbuf := 20, bitcnt := 5, consumed := 1 })).map
      (fun t => (t.result, t.consumed, t.bitcnt, t.bitbuf)) = some (148, 2, 5, 7) := by decide +kernel

/-- V13: 16 bits wanted with 1 bit buffered. -/
theorem test_takeBits_widest :
    (after (exec (.takeBits 16) { session [0x00, 0xff] with bitbuf := 1, bitcnt := 1, consumed := 1 })).map
      (fun t => (t.result, t.consumed, t.bitcnt, t.bitbuf)) = some (65025, 3, 1, 1) := by decide +kernel

/-- R132: with `inq` empty a pull is made and its first byte is the answer. -/
theorem test_fetchByte :
    (after (exec .fetchByte { ready with src := [[0x61, 0x62], [0x63]] })).map
      (fun t => (t.result, t.inq, t.src, t.consumed, t.bus)) =
      some (0x61, [0x62], [[0x63]], 1, [.pull [0x61, 0x62]]) := by decide +kernel

/-- V24: `construct([2, 0, 3, 1, 3], 5)`. -/
theorem test_construct :
    (after (exec (.construct .len [0x02, 0x00, 0x03, 0x01, 0x03] 5) ready)).map
      (fun t => (t.lenTable.count, t.lenTable.symbol.take 4, t.lenTable.status)) =
      some ([1, 1, 1, 2, 0, 0, 0, 0, 0, 0, 0, 0, 0, 0, 0, 0, 0], [3, 0, 2, 4], 0) := by decide +kernel

/-- R152 to R156 with 32 symbols of length 5 into `LEN`, whose memory has 16 slots: every count, a complete
code, and the slots there are hold their symbols. -/
theorem test_construct_past_memory :
    (after (exec (.construct .len [0xf5, 0xf5] 32) ready)).map
      (fun t => (t.lenTable.count, t.lenTable.symbol, t.lenTable.status)) =
      some ([0, 0, 0, 0, 0, 32, 0, 0, 0, 0, 0, 0, 0, 0, 0, 0, 0], List.range 16, 0) := by decide +kernel

/-- V25, V26, V28, V29: the statuses of three lists of one byte, and of a cut one. -/
theorem test_construct_status :
    ([(0x21, 3), (0x22, 3), (0x30, 4), (0xf5, 4)].map fun (b, n) =>
      (after (exec (.construct .dist [b] n) ready)).map fun t => t.distTable.status) =
      [some (-1), some 16384, some 0, some 57344] := by decide +kernel

/-- V35: `decode(LEN)` on input `04`. -/
theorem test_decode :
    (after (exec (.decode .len) (session [0x04]))).map (fun t => (t.sym, t.bitcnt, t.bitbuf)) =
      some (8, 3, 0) := by decide +kernel

/-- The core with V26's incomplete table in `LEN`. -/
def incomplete (input : List Byte) : State :=
  { session input with lenTable :=
      { count := [0, 0, 3, 0, 0, 0, 0, 0, 0, 0, 0, 0, 0, 0, 0, 0, 0], symbol := List.range 16, status := 16384 } }

/-- V33, V34: no code within 16 bits is `InvalidCode`, the input's end before that is `EndOfInput`. -/
theorem test_decode_unmapped :
    ([[0x00, 0x00, 0x55], [0x00]].map fun input =>
      (after (exec (.decode .len) (incomplete input))).map fun t => t.status) =
      [some (.failed .invalidCode), some (.failed .endOfInput)] := by decide +kernel

/-- The code rows of an alphabet set `sym` to their symbols (R172). -/
def rowsSet (a : Alphabet) : Bool :=
  (codeInstrs a).zipIdx.all fun (i, k) => (after (exec i ready)).map (·.sym) == some (BitVec.ofNat 8 k)

theorem test_len_rows : rowsSet .len = true := by decide +kernel
theorem test_dist_rows : rowsSet .dist = true := by decide +kernel
theorem test_lit_rows : rowsSet .lit = true := by decide +kernel

/-- V40. -/
theorem test_putByte :
    (after (exec (.putByte 0x41) ready)).map (fun t => (t.win, t.next, t.bus)) =
      some ([(0, 0x41)], 1, []) := by decide +kernel

/-- V46: the source index wraps. -/
theorem test_copy :
    (after (exec (.copy 3 4) { ready with
        firstFill := false, next := 2, win := bytesAt 0 [0x30, 0x31] ++ bytesAt 4094 [0x59, 0x5a] })).map
      (fun t => (t.win, t.next)) =
      some (bytesAt 0 [0x30, 0x31, 0x59, 0x5a, 0x30] ++ bytesAt 4094 [0x59, 0x5a], 5) := by decide +kernel

/-- V48: a distance of the window's size reads the byte about to be overwritten. -/
theorem test_copy_window_size :
    (after (exec (.copy 1 4096) { ready with
        firstFill := false, next := 7, win := bytesAt 7 [0x5e] })).map
      (fun t => (t.win, t.next)) = some (bytesAt 7 [0x5e], 8) := by decide +kernel

/-- V49, V50: `next` bytes are pushed and `next` stays; none are when `next` is 0. -/
theorem test_flush :
    ([bytesAt 0 [0x41, 0x49], []].map fun win =>
      (after (exec .flush { ready with win, next := BitVec.ofNat 13 win.length })).map
        fun t => (t.next, t.pushes)) =
      [some (2, [([0x41, 0x49], false)]), some (0, [])] := by decide +kernel

/-! ### Windows and histories -/

theorem read_bytesAt (a : Nat) : ∀ (k : Nat) (bs : List Byte),
    Memory.read (bytesAt k bs) a = if k ≤ a then bs[a - k]? else none
  | k, [] => by simp [bytesAt]
  | k, b :: bs => by
    rw [bytesAt, Memory.read, read_bytesAt a (k + 1) bs]
    by_cases h : k = a
    · simp [h]
    · by_cases hk : k ≤ a
      · rw [if_neg h, if_pos (by omega), if_pos hk, show a - k = a - (k + 1) + 1 by omega,
          List.getElem?_cons_succ]
      · rw [if_neg h, if_neg (by omega), if_neg hk]

theorem wf_bytesAt : ∀ (k : Nat) (bs : List Byte), k + bs.length ≤ 4096 →
    Memory.wfFrom k (bytesAt k bs) = true
  | _, [], _ => rfl
  | k, b :: bs, h => by
    rw [List.length_cons] at h
    simp [bytesAt, Memory.wfFrom, wf_bytesAt (k + 1) bs (by omega), show k < 4096 by omega]

theorem readRun_bytesAt {bs : List Byte} (h : bs.length ≤ 4096) :
    (bytesAt 0 bs).readRun 0 bs.length = some bs := by
  have hr : ∀ i < bs.length, Memory.read (bytesAt 0 bs) ((0 + i) % hw.winSize) = bs[i]? := by
    intro i hi
    rw [read_bytesAt, if_pos (Nat.zero_le _), hw_winSize, Nat.sub_zero, Nat.zero_add,
      Nat.mod_eq_of_lt (by omega)]
  obtain ⟨cs, h1, h2, h3⟩ := readRun_eq_some fun i hi => by
    rw [hr i hi, List.getElem?_eq_getElem hi]; rfl
  rw [h1]
  refine congrArg some (List.ext_getElem? fun i => ?_)
  by_cases hi : i < bs.length
  · rw [← h3 i hi, hr i hi]
  · rw [List.getElem?_eq_none (by omega), List.getElem?_eq_none (by omega)]

/-- A session that has emitted `bs`, at most a window of bytes, and has `input` still to be pulled. -/
def emitted (bs input : List Byte) : State :=
  { session input with
    win := bytesAt 0 bs, next := BitVec.ofNat 13 (bs.length % 4096), firstFill := decide (bs.length < 4096) }

theorem emitted_history {bs input : List Byte} (h : bs.length ≤ 4096) : History (emitted bs input) bs where
  next := by
    rw [hw_winSize]
    exact BitVec.toNat_ofNat _ _ |>.trans (Nat.mod_eq_of_lt (by omega))
  fill := rfl
  recent := fun p hp hp' => by
    rw [hw_winSize, Nat.mod_eq_of_lt (by omega)]
    exact (read_bytesAt p 0 bs).trans (if_pos (Nat.zero_le p))

theorem emitted_read {bs input : List Byte} {a : Nat} (h : a < bs.length) :
    ((emitted bs input).win.read a).isSome := by
  have := read_bytesAt a 0 bs
  rw [if_pos (Nat.zero_le a), Nat.sub_zero, List.getElem?_eq_getElem h] at this
  exact Option.isSome_iff_exists.mpr ⟨_, this⟩

/-- `n` bytes of 0x7a. -/
@[irreducible] def zs (n : Nat) : List Byte := List.replicate n 0x7a

@[simp] theorem length_zs (n : Nat) : (zs n).length = n := by unfold zs; exact List.length_replicate

/-- The 4095 bytes and the one that fills the window, as it stands in the window. -/
theorem stored_full : ((emitted (zs 4095) []).stored 0x42).win.readRun 0 4096 = some (zs 4095 ++ [0x42]) := by
  have e : ((emitted (zs 4095) []).stored 0x42).win = (bytesAt 0 (zs 4095)).write 4095 0x42 := by
    have hn : (emitted (zs 4095) []).next = 4095 := by
      show BitVec.ofNat 13 ((zs 4095).length % 4096) = 4095
      rw [length_zs]; rfl
    simp only [State.stored, writeWin, hn]
    rfl
  have hr : ∀ i < 4096, ((bytesAt 0 (zs 4095)).write 4095 0x42).read ((0 + i) % hw.winSize) =
      (zs 4095 ++ [0x42])[i]? := by
    intro i hi
    rw [hw_winSize, Nat.zero_add, Nat.mod_eq_of_lt hi, read_write, read_bytesAt,
      if_pos (Nat.zero_le i), Nat.sub_zero]
    by_cases h : i = 4095
    · subst h; rw [if_pos rfl, List.getElem?_append_right (by rw [length_zs]), length_zs]; rfl
    · rw [if_neg h, List.getElem?_append_left (by rw [length_zs]; omega)]
  rw [e]
  have hl : (zs 4095 ++ [(0x42 : Byte)]).length = 4096 := by rw [List.length_append, length_zs]; rfl
  obtain ⟨cs, h1, h2, h3⟩ := readRun_eq_some fun i hi => by
    rw [hr i hi, List.getElem?_eq_getElem (by omega)]; rfl
  rw [h1]
  refine congrArg some (List.ext_getElem? fun i => ?_)
  by_cases hi : i < 4096
  · rw [← h3 i hi, hr i hi]
  · rw [List.getElem?_eq_none (by omega), List.getElem?_eq_none (by omega)]

theorem emitted_full_next : ((emitted (zs 4095) []).next + 1).toNat = 4096 := by
  show (BitVec.ofNat 13 ((zs 4095).length % 4096) + 1).toNat = 4096
  rw [length_zs]; rfl

/-- V41: the push has the byte that filled the window; then `next` and `first_fill` are 0. -/
theorem test_putByte_wrap : ∃ t, exec (.putByte 0x42) (emitted (zs 4095) []) = .next t ∧ t.next = 0 ∧
    t.firstFill = false ∧ t.pushes = [(zs 4095 ++ [0x42], false)] := by
  have hn : ((emitted (zs 4095) []).stored 0x42).next.toNat = 4096 := emitted_full_next
  have hf := flush_push (s := (emitted (zs 4095) []).stored 0x42) (by rw [hn]; decide)
    (by rw [hn]; exact stored_full)
  refine ⟨{ (push (zs 4095 ++ [0x42]) ((emitted (zs 4095) []).stored 0x42)).2 with
    next := 0, firstFill := false }, ?_, rfl, rfl, ?_⟩
  · show (putByte 0x42 _).toOutcome = _
    rw [putByte_fill emitted_full_next, hf, if_neg (by decide)]; rfl
  · rw [push_eq]; rfl

/-- The same session on a sink that fails the next push. -/
def failing : State := { emitted (zs 4095) [] with sink := [true] }

theorem failing_stored : (failing.stored 0x42).win.readRun 0 4096 = some (zs 4095 ++ [0x42]) := stored_full

theorem failing_next : (failing.next + 1).toNat = 4096 := emitted_full_next

/-- V42: when that push fails the session ends in `OutputError`. -/
theorem test_putByte_failed_push : ∃ t, exec (.putByte 0x42) failing = .next t ∧
    t.state = .error ∧ t.status = .failed .outputError := by
  have hn : (failing.stored 0x42).next.toNat = 4096 := failing_next
  have hf := flush_push (s := failing.stored 0x42) (by rw [hn]; decide) (by rw [hn]; exact failing_stored)
  refine ⟨(push (zs 4095 ++ [0x42]) (failing.stored 0x42)).2.raise .outputError, ?_, rfl, rfl⟩
  show (putByte 0x42 _).toOutcome = _
  rw [putByte_fill failing_next, hf, if_pos (show (failing.stored 0x42).nextAnswer = true from rfl)]; rfl

/-- A full window with `next` at WINSIZE, as `wrap()` is called (R197). -/
def full (sink : List Bool) : State := { ready with win := bytesAt 0 (zs 4096), next := 4096, sink }

theorem full_read (sink : List Bool) {a : Nat} (h : a < 4096) : ((full sink).win.read a).isSome := by
  have := read_bytesAt a 0 (zs 4096)
  rw [if_pos (Nat.zero_le a), Nat.sub_zero, List.getElem?_eq_getElem (by rw [length_zs]; exact h)] at this
  exact Option.isSome_iff_exists.mpr ⟨_, this⟩

/-- R197: one push of the whole window, then `next` and `first_fill` are 0. -/
theorem test_wrap : ∃ t, exec .wrap (full []) = .next t ∧ t.next = 0 ∧ t.firstFill = false ∧
    t.pushes = [(zs 4096, false)] := by
  have hr : (full []).win.readRun 0 (full []).next.toNat = some (zs 4096) := by
    have := readRun_bytesAt (bs := zs 4096) (by rw [length_zs])
    rwa [length_zs] at this
  have hf := flush_push (s := full []) (by decide) hr
  refine ⟨{ (push (zs 4096) (full [])).2 with next := 0, firstFill := false }, ?_, rfl, rfl, ?_⟩
  · show (wrap _).toOutcome = _
    rw [wrap, hf, if_neg (by decide)]; rfl
  · rw [push_eq]; rfl

/-! ### For each obligation with hypotheses, a state and operands that meet them -/

theorem reader_ready (s : State) (h1 : s.bitcnt = 0) (h2 : s.bitbuf = 0) : ReaderOk s := by
  unfold ReaderOk; rw [h1, h2]; decide

theorem ready_sizes : SymbolSizes ready := by intro a; cases a <;> decide +kernel

theorem ready_fixed : TablesFixed ready := fun a => by cases a <;> rfl

theorem reset_sizes : SymbolSizes State.reset := by intro a; cases a <;> decide +kernel

theorem session_inv (input : List Byte) : Inv (session input) where
  memory := rfl
  sizes := ready_sizes
  tables := fun _ => ready_fixed
  built := fun _ => rfl
  reader := fun _ => reader_ready _ rfl rfl
  window := fun _ => ⟨(by decide : (0 : BitVec 13).toNat < 4096), fun _ a h => absurd h (Nat.not_lt_zero a), fun h => by cases h⟩
  header := fun _ => ⟨rfl, rfl⟩

theorem emitted_inv {bs : List Byte} (input : List Byte) (h : bs.length ≤ 4096) : Inv (emitted bs input) where
  memory := wf_bytesAt 0 bs (by omega)
  sizes := ready_sizes
  tables := fun _ => ready_fixed
  built := fun _ => rfl
  reader := fun _ => reader_ready _ rfl rfl
  window := fun _ => by
    have hn := (emitted_history (input := input) h).next
    rw [hw_winSize] at hn
    refine ⟨by rw [hn]; exact Nat.mod_lt _ (by decide), fun _ a ha => emitted_read ?_, fun hf a ha => emitted_read ?_⟩
    · have := Nat.mod_le bs.length 4096; omega
    · have : decide (bs.length < 4096) = false := hf
      simp only [decide_eq_false_iff_not, hw_winSize] at this ha; omega
  header := fun _ => ⟨rfl, rfl⟩

/-- A core after boot with `q` waiting. -/
def waiting (q : Request) : State := { ready with req := some q }

theorem waiting_inv (q : Request) : Inv (waiting q) where
  memory := rfl
  sizes := ready_sizes
  tables := fun _ => ready_fixed
  built := fun h => absurd rfl h
  reader := fun h => by cases h
  window := fun h => by cases h
  header := fun h => by cases h

/-- A session that has not read its header. -/
def fresh (input : List Byte) : State := { session input with state := .readHeader, lit := 9, dict := 9 }

theorem fresh_inv (input : List Byte) : Inv (fresh input) where
  memory := rfl
  sizes := ready_sizes
  tables := fun _ => ready_fixed
  built := fun _ => rfl
  reader := fun _ => reader_ready _ rfl rfl
  window := fun _ => ⟨(by decide : (0 : BitVec 13).toNat < 4096), fun _ a h => absurd h (Nat.not_lt_zero a), fun h => by cases h⟩
  header := fun h => by cases h

/-- A core whose session has ended. -/
def ended : State := { ready with state := .done }

theorem witness_HardReset : (waiting .hardReset).req = some .hardReset := rfl

theorem witness_BootBuildsTables : State.reset.state = .idle ∧ State.reset.tablesBuilt = false ∧
    State.reset.req ≠ some .hardReset ∧ State.reset.req ≠ some (.issue .start) ∧ SymbolSizes State.reset :=
  ⟨rfl, rfl, by decide, by decide, reset_sizes⟩

theorem witness_ConstructFixedLists : SymbolSizes State.reset := reset_sizes

theorem witness_StartCreatesSession :
    (ready.running = false ∧ ready.tablesBuilt = true) ∧ (session []).running = true ∧
    (State.reset.running = false ∧ State.reset.tablesBuilt = false) ∧
    ({ session [] with req := some (.issue .start) } : State).running = true ∧
    ({ State.reset with req := some (.issue .start) } : State).tablesBuilt = false :=
  ⟨⟨rfl, rfl⟩, rfl, ⟨rfl, rfl⟩, rfl, rfl⟩

theorem witness_StepRunsDecodedInstruction :
    ((session [0x82, 0x00]).req = none ∧ (session [0x82, 0x00]).running = true ∧
      ReaderOk (session [0x82, 0x00]) ∧ TablesFixed (session [0x82, 0x00]) ∧
      (session [0x82, 0x00]).ctx.legal = true ∧
      decode (session [0x82, 0x00]).ctx (session [0x82, 0x00]).bits =
        .ok (.litRaw 0x41, List.replicate 7 false)) ∧
    (fresh [0x01, 0x06]).ctx.legal = true ∧
    decode (fresh [0x01, 0x06]).ctx (fresh [0x01, 0x06]).bits = .ok (.hdr 1 6, []) :=
  ⟨⟨rfl, rfl, reader_ready _ rfl rfl, ready_fixed, by decide, rfl⟩, rfl, rfl⟩

theorem witness_StepTakesDecodeError :
    decode (fresh [0x02]).ctx (fresh [0x02]).bits = .error .formatError ∧
    decode (session []).ctx (session []).bits = .error .endOfInput ∧
    (session []).ctx.legal = true ∧ (fresh [0x02]).ctx.legal = true ∧
    ReaderOk (fresh [0x02]) ∧ TablesFixed (fresh [0x02]) ∧ (fresh [0x02]).running = true :=
  ⟨rfl, rfl, by decide, rfl, reader_ready _ rfl rfl, ready_fixed, rfl⟩

theorem witness_RequestsRunOperations :
    isOperation .flush = true ∧ isOperation .endMark = false ∧
    ¬ ((waiting (.code .len)).state = .idle ∧ (waiting (.code .len)).tablesBuilt = false) ∧
    (waiting (.code .len)).state ≠ .done ∧ (waiting (.code .len)).state ≠ .error ∧
    ReaderOk { waiting (.code .len) with src := [[0x05]] } ∧
    TablesFixed { waiting (.code .len) with src := [[0x05]] } ∧
    decode (.code .len) ({ waiting (.code .len) with src := [[0x05]] } : State).bits =
      .ok (.len1, List.replicate 5 false) :=
  ⟨rfl, rfl, by decide, by decide, by decide, reader_ready _ rfl rfl, ready_fixed, by decide +kernel⟩

theorem witness_NothingRunsOutsideSession :
    (ended.req = none ∧ ended.running = false ∧ (ended.state = .idle → ended.tablesBuilt = true)) ∧
    (ready.req = none ∧ ready.running = false ∧ (ready.state = .idle → ready.tablesBuilt = true)) :=
  ⟨⟨rfl, rfl, fun _ => rfl⟩, rfl, rfl, fun _ => rfl⟩

theorem witness_NothingRunsAfterTheEnd :
    let s (r : Request) : State := { ended with req := some r }
    (s (.issue .flush)).state = .done ∧ Request.issue .flush ≠ .hardReset ∧
    Request.issue .flush ≠ .issue .start ∧ (s (.issue .start)).tablesBuilt = true ∧
    ({ s (.code .len) with state := .error } : State).state = .error :=
  ⟨rfl, by decide, by decide, rfl, rfl⟩

/-- R260: a request in `Error` runs nothing: no bit is taken and `status` stays. -/
theorem test_error_runs_nothing :
    (after (step { session [] with
        state := .error, status := .failed .formatError, req := some (.issue (.takeBits 1)) })).map
      (fun t => (t.state, t.status, t.bus, t.req)) =
      some (.error, .failed .formatError, [], none) := by decide +kernel

/-- R293, U12: `start` before the tables are built is refused. -/
theorem test_start_before_boot :
    refusal (step { State.reset with req := some (.issue .start) }) = some .startBeforeTables := by
  decide +kernel

theorem witness_DecodeEncode :
    [(Ctx.header, Instr.hdr 1 6), (.token 0 4, .litRaw 0xff), (.token 1 4, .litHuf 0xff),
     (.token 0 4, .match2 256), (.token 0 4, .matchN 518 1024), (.token 1 6, .matchN 3 4096),
     (.token 0 4, .endMark), (.code .lit, .lit255)].all (fun p => p.1.legal && p.1.holds p.2) = true := by
  decide +kernel

theorem witness_DecodeSound : (Ctx.token 0 4).legal = true ∧
    decode (.token 0 4) [false, true, false, false, false, false, false, true, false] =
      .ok (.litRaw 0x41, []) := ⟨by decide, rfl⟩

theorem witness_TakeBits : (16#5).toNat ≤ 16 ∧ ReaderOk (session [0x34, 0x12]) ∧
    (16#5).toNat ≤ (session [0x34, 0x12]).bits.length ∧
    (session [0x34]).bits.length < (9#5).toNat ∧ ReaderOk (session [0x34]) :=
  ⟨by decide, reader_ready _ rfl rfl, by decide, by decide, reader_ready _ rfl rfl⟩

theorem witness_TakeBitsSplits : (3#5).toNat + (13#5).toNat ≤ 16 ∧ ReaderOk (session [0xc7, 0x01]) ∧
    (3#5).toNat + (13#5).toNat ≤ (session [0xc7, 0x01]).bits.length ∧
    (session [0xc7]).bits.length < (3#5).toNat + (13#5).toNat ∧ ReaderOk (session [0xc7]) :=
  ⟨by decide, reader_ready _ rfl rfl, by decide, by decide, reader_ready _ rfl rfl⟩

theorem witness_FetchByte :
    (session [0x61]).inq ++ upcoming (session [0x61]).src = [0x61] ∧ (session [0x61]).inq = [] ∧
    ({ session [] with inq := [0x62] } : State).inq ≠ [] ∧
    (session []).inq ++ upcoming (session []).src = [] := ⟨rfl, rfl, by decide, rfl⟩

theorem witness_ChunkingUnobservable :
    (session [0x82, 0x00]).running = true ∧ (session [0x82, 0x00]).req = none ∧
    upcoming [[0x82, 0x00]] = upcoming (session [0x82, 0x00]).src ∧
    ∃ t, Sys2Proof.core.run 1 (session [0x82, 0x00]) = .next t :=
  ⟨rfl, rfl, rfl, exists_next (by decide +kernel)⟩

theorem witness_ConstructCompletes :
    (256#9).toNat ≤ listSymbols hw.litLenSpec ∧ (4#9).toNat ≤ listSymbols [0xf5] ∧
    (32#9).toNat ≤ listSymbols [0xf5, 0xf5] := by decide +kernel

/-- V23, V28 and V25: a complete list, the empty one, and one over-subscribed at length 1. -/
theorem witness_ConstructStatus :
    (∀ p ∈ [([(0x01 : Byte), 0x02, 0x13], (4 : BitVec 9)), ([0x30], 4), ([0x21], 3)],
      ∃ t, exec (.construct .len p.1 p.2) ready = .next t) ∧
    ([1, 2, 3, 3].count 0 ≠ 4 ∧ ∀ l ≤ 16, 0 ≤ leftAfter [1, 2, 3, 3] l) ∧
    [0, 0, 0, 0].count 0 = 4 ∧
    (leftAfter [1, 1, 1] 1 < 0 ∧ ∀ j < 1, 0 ≤ leftAfter [1, 1, 1] j) := by
  refine ⟨?_, by decide +kernel, by decide, by decide +kernel⟩
  intro p hp
  fin_cases hp <;> exact exists_next (by decide +kernel)

/-- V24, with a symbol of length 0 in the middle. -/
theorem witness_ConstructOrdersSymbols : SymbolSizes ready ∧
    (∃ t, exec (.construct .len [0x02, 0x00, 0x03, 0x01, 0x03] 5) ready = .next t) ∧
    (∀ l ≤ 16, 0 ≤ leftAfter (expandLengths [0x02, 0x00, 0x03, 0x01, 0x03] 5) l) ∧
    (5#9).toNat ≤ Alphabet.len.size ∧
    (∃ t, exec (.construct .len [0xf5, 0xf5] 32) ready = .next t) ∧
    (∀ l ≤ 16, 0 ≤ leftAfter (expandLengths [0xf5, 0xf5] 32) l) ∧
    (orderedSymbols (expandLengths [0xf5, 0xf5] 32))[15]? = some 15 :=
  ⟨ready_sizes, exists_next (by decide +kernel), by decide +kernel, by decide,
    exists_next (by decide +kernel), by decide +kernel, by decide +kernel⟩

theorem witness_DecodeReadsFixedCode :
    (ReaderOk (session [0x04]) ∧ TablesFixed (session [0x04]) ∧ 8 < Alphabet.len.size ∧
      (session [0x04]).bits = codeBits .len 8 ++ [false, false, false]) ∧
    ∀ k < Alphabet.lit.size, ¬ codeBits .lit k <+: (session [0x00]).bits :=
  ⟨⟨reader_ready _ rfl rfl, ready_fixed, by decide, by decide +kernel⟩, by decide +kernel⟩

/-- V26's incomplete table and its third code, `01`. -/
theorem witness_DecodeReadsConstructedCode : SymbolSizes ready ∧
    ∃ t, exec (.construct .len [0x22] 3) ready = .next t ∧ 0 ≤ (t.table .len).status ∧
      ({ session [0x02] with lenTable := t.lenTable } : State).table .len = t.table .len ∧
      ReaderOk { session [0x02] with lenTable := t.lenTable } ∧ 2 < (3#9).toNat ∧
      (3#9).toNat ≤ Alphabet.len.size ∧
      (expandLengths [0x22] 3).getD 2 0 = 2 ∧
      ({ session [0x02] with lenTable := t.lenTable } : State).bits =
        codePattern 2 (canonicalCode (expandLengths [0x22] 3) 2) ++ List.replicate 6 false :=
  ⟨ready_sizes, _, rfl, by decide +kernel, rfl, reader_ready _ rfl rfl, by decide, by decide,
    by decide +kernel, by decide +kernel⟩

/-- V23's complete table. -/
theorem witness_CompleteTableDecodes :
    ∃ t, exec (.construct .len [0x01, 0x02, 0x13] 4) ready = .next t ∧
      (expandLengths [0x01, 0x02, 0x13] 4).count 0 ≠ (expandLengths [0x01, 0x02, 0x13] 4).length ∧
      (t.table .len).status = 0 ∧
      ({ session [0x00, 0x00] with lenTable := t.lenTable } : State).table .len = t.table .len ∧
      ReaderOk { session [0x00, 0x00] with lenTable := t.lenTable } ∧
      16 ≤ ({ session [0x00, 0x00] with lenTable := t.lenTable } : State).bits.length :=
  ⟨_, rfl, by decide +kernel, by decide +kernel, rfl, reader_ready _ rfl rfl, by decide⟩

theorem witness_DecodeEmptyTable :
    let s (input : List Byte) : State := { session input with lenTable := blankTable 16 }
    ReaderOk (s [0, 0]) ∧ 0 ≤ ((s [0, 0]).table .len).status ∧
    ((s [0, 0]).table .len).count.tail = List.replicate 16 0 ∧ 16 ≤ (s [0, 0]).bits.length ∧
    ¬ 16 ≤ (s [0]).bits.length :=
  ⟨reader_ready _ rfl rfl, by decide, by decide, by decide, by decide⟩

theorem witness_CodeRowsSetSymbol : (codeInstrs .len)[15]? = some .len15 ∧
    (codeInstrs .dist)[63]? = some .dist63 ∧ (codeInstrs .lit)[255]? = some .lit255 := ⟨rfl, rfl, rfl⟩

theorem witness_RefusedRequests : 16 < (17#5).toNat ∧
    (({ ready with distTable := { blankTable 64 with status := -1 } } : State).table .dist).status < 0 ∧
    listSymbols [0xe2] < (16#9).toNat := ⟨by decide, by decide, by decide⟩

theorem emitted_next {bs input : List Byte} (h : bs.length < 4096) :
    (emitted bs input).next.toNat = bs.length := by
  have := (emitted_history (input := input) (Nat.le_of_lt h)).next
  rwa [hw_winSize, Nat.mod_eq_of_lt h] at this

theorem emitted_win_read {n a : Nat} (h : a < n) (input : List Byte) :
    ((emitted (zs n) input).win.read a).isSome := emitted_read (by rw [length_zs]; exact h)

theorem witness_PutByte :
    (emitted (zs 4094) []).next.toNat < 4095 ∧
    ((emitted (zs 4095) []).next.toNat = 4095 ∧ (∀ a < 4095, ((emitted (zs 4095) []).win.read a).isSome) ∧
      (emitted (zs 4095) []).nextAnswer = false) ∧
    failing.nextAnswer = true :=
  ⟨by rw [emitted_next (by simp), length_zs]; decide,
    ⟨by rw [emitted_next (by simp), length_zs], fun _ h => emitted_win_read h [], rfl⟩, rfl⟩

theorem witness_FlushPushesPrefix : ready.next = 0 ∧
    ((full []).next ≠ 0 ∧ (full []).next.toNat ≤ 4096 ∧
      (∀ a < (full []).next.toNat, ((full []).win.read a).isSome) ∧ (full []).nextAnswer = false) ∧
    (full [true]).nextAnswer = true :=
  ⟨rfl, ⟨by decide, by decide, fun _ h => full_read [] h, rfl⟩, rfl⟩

theorem witness_WrapPushesThenClears : (full []).next.toNat = 4096 ∧
    (∀ a < 4096, ((full []).win.read a).isSome) ∧ (full []).nextAnswer = false ∧
    (full [true]).nextAnswer = true := ⟨rfl, fun _ h => full_read [] h, rfl, rfl⟩

theorem witness_WrapBeforeFull : ready.next = 0 ∧
    (emitted (zs 4095) []).next ≠ 0 ∧ (emitted (zs 4095) []).next.toNat < 4096 ∧
    ∀ a < (emitted (zs 4095) []).next.toNat, ((emitted (zs 4095) []).win.read a).isSome := by
  have hn : (emitted (zs 4095) []).next.toNat = 4095 := by rw [emitted_next (by simp), length_zs]
  refine ⟨rfl, fun h => ?_, by rw [hn]; decide, fun a h => emitted_win_read (by omega) []⟩
  rw [h] at hn; cases hn

theorem witness_LiteralJoinsHistory :
    (History (emitted [] []) [] ∧ (emitted [] []).sinkAccepts) ∧
    (History (emitted (zs 4095) []) (zs 4095) ∧ (emitted (zs 4095) []).sinkAccepts) ∧
    Flushed (emitted (zs 4095) []) [] (zs 4095) := by
  refine ⟨⟨emitted_history (by simp), fun f h => by cases h⟩,
    ⟨emitted_history (by simp), fun f h => by cases h⟩, ?_⟩
  unfold Flushed; rw [length_zs]; rfl

theorem witness_CopyAppendsHistory :
    let e : List Byte := [0x41, 0x49]
    (History (emitted e []) e ∧ (emitted e []).sinkAccepts ∧ 1 ≤ (2#13).toNat ∧
      (2#13).toNat ≤ e.length) ∧
    (History (emitted (zs 4096) []) (zs 4096) ∧ (emitted (zs 4096) []).sinkAccepts ∧
      (4096#13).toNat ≤ (zs 4096).length ∧ (4096#13).toNat ≤ 4096) :=
  ⟨⟨emitted_history (by decide), fun f h => (by cases h), by decide, by decide⟩,
    emitted_history (by simp), fun f h => (by cases h), by rw [length_zs]; decide, by decide⟩

theorem witness_ExpandRepeats : 1 ≤ 2 ∧ 2 ≤ [(0x41 : Byte), 0x49].length := by decide

theorem witness_CopyStopsAtFailedPush :
    History failing (zs 4095) ∧ failing.nextAnswer = true ∧ 1 ≤ (1#13).toNat ∧
    (1#13).toNat ≤ (zs 4095).length ∧ (1#13).toNat ≤ 4096 ∧ 4096 ≤ failing.next.toNat + (2#10).toNat := by
  have hn : (emitted (zs 4095) []).next.toNat = 4095 := by rw [emitted_next (by simp), length_zs]
  have h := emitted_history (bs := zs 4095) (input := []) (by simp)
  refine ⟨⟨h.next, h.fill, h.recent⟩, rfl, by decide, by rw [length_zs]; decide, by decide, ?_⟩
  show 4096 ≤ (emitted (zs 4095) []).next.toNat + (2#10).toNat
  rw [hn]; decide

theorem witness_HdrAccepts : ((1 : Byte).toNat ≤ 1 ∧ 4 ≤ (4 : Byte).toNat ∧ (4 : Byte).toNat ≤ 6) ∧
    ((0 : Byte).toNat ≤ 1 ∧ 4 ≤ (6 : Byte).toNat ∧ (6 : Byte).toNat ≤ 6) := by decide

/-- The boundary values of each clause: no byte; `02`; `01` alone; `01 03`, `01 07`; `01 04`, `00 06`. -/
theorem witness_HeaderStep :
    ((fresh []).state = .readHeader ∧ (fresh []).req = none ∧ ReaderOk (fresh []) ∧
      (fresh []).bits.length < 8) ∧
    (1 < (0x02 : Byte).toNat ∧ (fresh [0x02]).bits = byteBits 0x02 ++ []) ∧
    ((0x01 : Byte).toNat ≤ 1 ∧ (fresh [0x01]).bits = byteBits 0x01 ++ []) ∧
    ((0x03 : Byte).toNat < 4 ∧ (fresh [0x01, 0x03]).bits = byteBits 0x01 ++ (byteBits 0x03 ++ [])) ∧
    (6 < (0x07 : Byte).toNat ∧ (fresh [0x01, 0x07]).bits = byteBits 0x01 ++ (byteBits 0x07 ++ [])) ∧
    (4 ≤ (0x04 : Byte).toNat ∧ (fresh [0x01, 0x04]).bits = byteBits 0x01 ++ (byteBits 0x04 ++ [])) ∧
    ((0x06 : Byte).toNat ≤ 6 ∧ (fresh [0x00, 0x06]).bits = byteBits 0x00 ++ (byteBits 0x06 ++ [])) :=
  ⟨⟨rfl, rfl, reader_ready _ rfl rfl, by decide⟩, ⟨by decide, rfl⟩, ⟨by decide, rfl⟩, ⟨by decide, rfl⟩,
    ⟨by decide, rfl⟩, ⟨by decide, rfl⟩, by decide, rfl⟩

theorem witness_MatchCopies :
    let e : List Byte := [0x41, 0x49]
    (Instr.matchN 11 2 = .matchN 11 2 ∨ (Instr.matchN 11 2 = .match2 2 ∧ (11 : BitVec 10) = 2)) ∧
    History (emitted e []) e ∧ (emitted e []).sinkAccepts ∧ 1 ≤ (2#13).toNat ∧ (2#13).toNat ≤ e.length :=
  ⟨.inl rfl, emitted_history (by decide), fun f h => (by cases h), by decide, by decide⟩

/-- P6, and a back-reference as the first token. -/
theorem witness_MatchTooFar :
    ((emitted [0x61, 0x62] []).firstFill = true ∧ (emitted [0x61, 0x62] []).next.toNat < (3#13).toNat) ∧
    ((emitted [] []).firstFill = true ∧ (emitted [] []).next.toNat < (1#13).toNat) := by decide

theorem witness_EndFinishes :
    (ready.next.toNat ≤ 4096 ∧ ∀ a < ready.next.toNat, (ready.win.read a).isSome) ∧
    ((emitted (zs 4095) []).next.toNat ≤ 4096 ∧
      (∀ a < (emitted (zs 4095) []).next.toNat, ((emitted (zs 4095) []).win.read a).isSome) ∧
      (emitted (zs 4095) []).nextAnswer = false) ∧
    (full [true]).next ≠ 0 ∧ (full [true]).nextAnswer = true := by
  have hn : (emitted (zs 4095) []).next.toNat = 4095 := by rw [emitted_next (by simp), length_zs]
  exact ⟨⟨by decide, fun a h => absurd h (Nat.not_lt_zero a)⟩,
    ⟨by rw [hn]; decide, fun a h => emitted_win_read (by omega) [], rfl⟩, by decide, rfl⟩

/-- One step from each FSM state, and hardware reset. -/
theorem witness_FsmTransitions :
    (HostOnly (waiting .hardReset) ∧ ∃ t, step (waiting .hardReset) = .next t) ∧
    (HostOnly (waiting (.issue .start)) ∧ ∃ t, step (waiting (.issue .start)) = .next t) ∧
    (HostOnly (fresh [0x00, 0x04]) ∧ ∃ t, step (fresh [0x00, 0x04]) = .next t) ∧
    (HostOnly (session [0x82, 0x00]) ∧ ∃ t, step (session [0x82, 0x00]) = .next t) ∧
    (HostOnly ended ∧ ∃ t, step ended = .next t) :=
  ⟨⟨.inr (.inl rfl), _, rfl⟩, ⟨.inr (.inr rfl), _, rfl⟩, ⟨.inl rfl, exists_next (by decide +kernel)⟩,
    ⟨.inl rfl, exists_next (by decide +kernel)⟩, .inl rfl, _, rfl⟩

/-- A session of two bytes that meets its end marker, on a sink that answers `sink`. -/
def ending (sink : List Bool) : State := { emitted [0x41, 0x49] [0x01, 0xff] with sink }

/-- A step into `Error` without a push, one by a failed push, and one into `Done`. -/
theorem witness_NoOutputAfterFailureNoSuccessBeforeLastPush :
    (HostOnly (session []) ∧ (after (step (session []))).map (·.state) = some .error) ∧
    (HostOnly (ending [true]) ∧
      (after (step (ending [true]))).map (·.status) = some (.failed .outputError)) ∧
    (HostOnly (ending []) ∧ (after (step (ending []))).map (·.state) = some .done) := by
  refine ⟨⟨.inl rfl, by decide +kernel⟩, ⟨.inl rfl, by decide +kernel⟩, .inl rfl, by decide +kernel⟩

theorem witness_InvKept : Inv (emitted [0x41, 0x49] [0x82, 0x00]) ∧
    HostOnly (emitted [0x41, 0x49] [0x82, 0x00]) ∧
    ∃ t, step (emitted [0x41, 0x49] [0x82, 0x00]) = .next t :=
  ⟨emitted_inv _ (by decide), .inl rfl, exists_next (by decide +kernel)⟩

theorem witness_InvProgress : Inv (emitted (zs 4095) [0x82, 0x00]) ∧
    HostOnly (emitted (zs 4095) [0x82, 0x00]) ∧
    ¬ (((emitted (zs 4095) [0x82, 0x00]).running = true ∨
        (emitted (zs 4095) [0x82, 0x00]).tablesBuilt = false) ∧
      (emitted (zs 4095) [0x82, 0x00]).req = some (.issue .start)) :=
  ⟨emitted_inv _ (by simp), .inl rfl, fun h => by cases h.2⟩

theorem witness_InvalidCodeUnreachable : Inv (session []) ∧ HostOnly (session []) ∧
    (session []).state ≠ .error ∧ (after (step (session []))).map (·.state) = some .error :=
  ⟨session_inv [], .inl rfl, by decide, by decide +kernel⟩

theorem witness_SessionsEnd : Inv (fresh [0x00, 0x04]) ∧ (fresh [0x00, 0x04]).running = true ∧
    (fresh [0x00, 0x04]).req = none := ⟨fresh_inv _, rfl, rfl⟩

theorem witness_SessionsAreIndependent :
    let s := waiting (.issue .start)
    let s' : State := { ended with req := some (.issue .start), win := [(0, 0x61)], next := 1, bitbuf := 1 }
    s.running = false ∧ s'.running = false ∧ s.tablesBuilt = true ∧ s'.tablesBuilt = true ∧ Inv s ∧ Inv s' ∧
    s.req = some (.issue .start) ∧ s'.req = some (.issue .start) ∧ s.src = s'.src ∧ s.sink = s'.sink ∧
    ∃ t, Sys2Proof.core.run (1 + 1) s = .next t :=
  ⟨rfl, rfl, rfl, rfl, waiting_inv _,
    { memory := rfl, sizes := ready_sizes, tables := fun _ => ready_fixed, built := fun _ => rfl,
      reader := fun h => (by cases h), window := fun h => (by cases h), header := fun h => (by cases h) },
    rfl, rfl, rfl, rfl, exists_next (by decide +kernel)⟩

theorem witness_OnlyConstructWritesTables : (∀ a list n, Instr.flush ≠ .construct a list n) ∧
    exec .flush ready = .next ready := ⟨fun _ _ _ h => (by cases h), rfl⟩

theorem witness_FirstFillStaysClear :
    let s : State := { session [] with firstFill := false }
    Instr.flush ≠ .start ∧ s.firstFill = false ∧ exec .flush s = .next s ∧ s.running = true :=
  ⟨by decide, rfl, rfl, rfl⟩

theorem witness_HeaderFieldsConstant : HostOnly (session [0x82, 0x00]) ∧
    (session [0x82, 0x00]).state = .decodeLoop ∧
    (after (step (session [0x82, 0x00]))).map (·.state) = some .decodeLoop :=
  ⟨.inl rfl, rfl, by decide +kernel⟩

theorem witness_EmittedBytesAreDelivered :
    let e : List Byte := [0x41, 0x49]
    (Inv (emitted e [0x82, 0x00]) ∧ (emitted e [0x82, 0x00]).running = true ∧
      (emitted e [0x82, 0x00]).req = none ∧ History (emitted e [0x82, 0x00]) e ∧
      Flushed (emitted e [0x82, 0x00]) [] e ∧
      (after (step (emitted e [0x82, 0x00]))).map (·.running) = some true) ∧
    (after (step (emitted e [0x01, 0xff]))).map (·.state) = some .done ∧
    (after (step (emitted e [0x01]))).map (·.status) = some (.failed .endOfInput) :=
  ⟨⟨emitted_inv _ (by decide), rfl, rfl, emitted_history (by decide), rfl, by decide +kernel⟩,
    by decide +kernel, by decide +kernel⟩

theorem witness_SessionComputesResult :
    let s : State := { waiting (.issue .start) with src := [[0x00, 0x04, 0x82, 0x24, 0x25], [0x8f, 0x80, 0x7f]] }
    Inv s ∧ s.running = false ∧ s.tablesBuilt = true ∧ s.req = some (.issue .start) ∧ s.sinkAccepts :=
  ⟨{ waiting_inv (.issue .start) with }, rfl, rfl, rfl, fun f h => (by cases h)⟩

/-- V1 by the decoder and an unbounded output: `AIAIAIAIAIAIA` and `Success`. -/
theorem test_sessionResult :
    sessionResult 65 .header ([0x00, 0x04, 0x82, 0x24, 0x25, 0x8f, 0x80, 0x7f].flatMap byteBits) [] =
      ([0x41, 0x49, 0x41, 0x49, 0x41, 0x49, 0x41, 0x49, 0x41, 0x49, 0x41, 0x49, 0x41], .success) := by
  decide +kernel

end Sys2Proof.Tests
end

/-! SUPPORT. The reset state, the registers a host reads, and the bytes a literal emits. -/

namespace Sys2Proof.Machine

/-! ### The reset state and the registers a host reads -/

theorem FsmState.number_le (q : FsmState) : q.number.toNat ≤ 4 := by cases q <;> decide

theorem FsmState.number_injective {q q' : FsmState} (h : q.number = q'.number) : q = q' := by
  revert h; cases q <;> cases q' <;> decide

theorem ErrorKind.number_bounds (k : ErrorKind) : 1 ≤ k.number.toNat ∧ k.number.toNat ≤ 5 := by
  cases k <;> decide

theorem ErrorKind.number_injective {k k' : ErrorKind} (h : k.number = k'.number) : k = k' := by
  revert h; cases k <;> cases k' <;> decide

theorem Status.number_le : ∀ k : Status, k.number.toNat ≤ 5
  | .success => by decide
  | .failed k => k.number_bounds.2

/-- No error kind has the number of `Success` (R30). -/
theorem ErrorKind.number_ne_success (k : ErrorKind) : (Status.failed k).number ≠ Status.success.number :=
  fun h => by
    have := k.number_bounds.1
    rw [show k.number = 0 from h] at this
    exact absurd this (by decide)

theorem Status.number_injective : ∀ {k k' : Status}, k.number = k'.number → k = k'
  | .success, .success, _ => rfl
  | .success, .failed k, h => absurd h.symm k.number_ne_success
  | .failed k, .success, h => absurd h k.number_ne_success
  | .failed _, .failed _, h => congrArg Status.failed (ErrorKind.number_injective h)

/-- Beyond CSR 0 and CSR 1 there is none (R34). -/
theorem readCsr_none (s : State) : ∀ n, 2 ≤ n → s.readCsr n = none
  | _ + 2, _ => rfl

/-- Settles O5: the numbers are bounded and injective kind by kind. -/
theorem stateAndStatusReads : Obligations.StateAndStatusReads :=
  ⟨fun s => ⟨rfl, rfl, readCsr_none s⟩, FsmState.number_le, Status.number_le,
    fun _ _ => FsmState.number_injective, fun _ _ => Status.number_injective⟩

/-- Settles O44: `Idle`, an empty window, blank tables of the right sizes. -/
theorem invReset : Obligations.InvReset where
  memory := rfl
  sizes a := by cases a <;> exact List.length_replicate ..
  tables h := absurd h Bool.false_ne_true
  built h := absurd rfl h
  reader h := absurd h Bool.false_ne_true
  window h := absurd h Bool.false_ne_true
  header h := absurd h (by decide)

/-! ### Literals -/

/-- A `putByte` that answers leaves `mlen` alone, as no copy is made (R193). -/
theorem putByte_mlen {b : Byte} {s t : State} (h : putByte b s = .ok () t) : t.mlen = s.mlen := by
  rcases putByte_ok h with ⟨_, rfl⟩ | ⟨_, u, hu, rfl⟩
  · rfl
  · show u.mlen = _
    rw [flush_frame hu]; rfl

/-- Both literal tokens are `putByte` (R214, R215). -/
theorem exec_literal {i : Instr} {b : Byte} (h : i = .putByte b ∨ i = .litRaw b ∨ i = .litHuf b)
    (s : State) : exec i s = (putByte b s).toOutcome := by
  rcases h with rfl | rfl | rfl <;> rfl

/-- Settles O32: `putByte` on an accepting sink appends its byte. -/
theorem literalJoinsHistory : Obligations.LiteralJoinsHistory := by
  intro i b s e hi hh ha
  obtain ⟨t, ht, hth, hta, hf⟩ := putByte_history b hh ha
  refine ⟨t, by rw [exec_literal hi, ht, Res.toOutcome_ok], hth, hta, hf, ?_⟩
  have hframe : SameButWindow s t := putByte_frame ht
  unfold SameButWindow at hframe
  rwa [putByte_mlen ht] at hframe

end Sys2Proof.Machine

/-! SUPPORT. What an instruction leaves of the tables and of `first_fill`, in any state. -/

namespace Sys2Proof.Machine

variable {α β : Type}

/-! ### Operations that end in a state with a property -/

theorem Res.All.mono {P Q : State → Prop} {r : Res α} (h : r.All P) (hpq : ∀ t, P t → Q t) : r.All Q := by
  cases r with
  | ok a t => exact hpq t h
  | raised k t => exact hpq t h
  | fault x => trivial
  | refused x => trivial

/-- An operation that goes on: where it raises what held before must suffice. -/
theorem Res.All.bindTo {P Q : State → Prop} {r : Res α} {f : α → State → Res β} (h : r.All P)
    (hpq : ∀ t, P t → Q t) (hf : ∀ a t, P t → (f a t).All Q) : (r.bind f).All Q := by
  cases r with
  | ok a t => exact hf a t h
  | raised k t => exact hpq t h
  | fault x => trivial
  | refused x => trivial

theorem Res.All.ok {P : State → Prop} {r : Res α} {a : α} {t : State} (h : r.All P) (e : r = .ok a t) :
    P t := by rw [e] at h; exact h

theorem Res.All.raised {P : State → Prop} {r : Res α} {k : ErrorKind} {t : State} (h : r.All P)
    (e : r = .raised k t) : P t := by rw [e] at h; exact h

/-! ### Operations that emit bytes (R190, R217) -/

/-- `s` and `t` differ only in what emitting bytes may write: the window and its output, and the
operands of a copy, which are dead after a back-reference (R32). -/
def SameButEmit (s t : State) : Prop :=
  t = { s with win := t.win, next := t.next, firstFill := t.firstFill, mlen := t.mlen,
               mdist := t.mdist, sink := t.sink, bus := t.bus, fresh := t.fresh }

/-- What emitting bytes keeps: all but the above, and a cleared `first_fill` (R35). -/
def EmitKeeps (s t : State) : Prop := SameButEmit s t ∧ (s.firstFill = false → t.firstFill = false)

theorem EmitKeeps.refl (s : State) : EmitKeeps s s := ⟨rfl, id⟩

theorem EmitKeeps.trans {s t u : State} (h : EmitKeeps s t) (h' : EmitKeeps t u) : EmitKeeps s u := by
  refine ⟨?_, h'.2 ∘ h.2⟩
  have e := h'.1
  unfold SameButEmit at *
  rw [e, h.1]

theorem EmitKeeps.of_sink {s t : State} (h : t = { s with sink := t.sink, bus := t.bus }) :
    EmitKeeps s t := by
  rw [h]; exact ⟨rfl, id⟩

theorem stored_emitKeeps (b : Byte) (s : State) : EmitKeeps s (s.stored b) := ⟨rfl, id⟩

theorem flush_all (s : State) : (flush s).All (EmitKeeps s) := by
  cases h : flush s with
  | ok a t => exact .of_sink (flush_frame h)
  | raised k t => exact .of_sink (flush_raised h).2.1
  | fault x => trivial
  | refused x => trivial

theorem wrap_all (s : State) : (wrap s).All (EmitKeeps s) :=
  (flush_all s).bind fun _ _ h => h.trans ⟨rfl, fun _ => rfl⟩

theorem putByte_all (b : Byte) (s : State) : (putByte b s).All (EmitKeeps s) := by
  rw [putByte_eq]
  split
  · exact (wrap_all _).mono fun _ => (stored_emitKeeps b s).trans
  · exact stored_emitKeeps b s

theorem readWin_all (a : Nat) (s : State) : (readWin a s).All (EmitKeeps s) := by
  unfold readWin
  split
  · exact .refl s
  · trivial

theorem copyLoop_all : ∀ (n : Nat) (s : State), (copyLoop n s).All (EmitKeeps s)
  | 0, s => .refl s
  | n + 1, s =>
    (readWin_all _ s).bind fun b t ht =>
      ((putByte_all b t).mono fun _ => ht.trans).bind fun _ u hu =>
        have hlen : EmitKeeps u { u with mlen := BitVec.ofNat 10 n } := ⟨rfl, id⟩
        (copyLoop_all n _).mono fun _ hv => hu.trans (hlen.trans hv)

theorem copy_all (len : BitVec 10) (dist : BitVec 13) (s : State) : (copy len dist s).All (EmitKeeps s) :=
  have hs : EmitKeeps s { s with mlen := len, mdist := dist } := ⟨rfl, id⟩
  (copyLoop_all _ _).mono fun _ => hs.trans

theorem backReference_all (len : BitVec 10) (dist : BitVec 13) (s : State) :
    (backReference len dist s).All (EmitKeeps s) := by
  have hs : EmitKeeps s { s with mlen := len, mdist := dist } := ⟨rfl, id⟩
  unfold backReference
  simp only
  split
  · exact hs
  · exact (copy_all len dist _).bindTo (fun _ => hs.trans) fun _ _ ht =>
      hs.trans (ht.trans ⟨rfl, id⟩)

/-! ### The tables -/

@[simp] theorem table_raise (s : State) (k : ErrorKind) (a : Alphabet) : (s.raise k).table a = s.table a := by
  cases a <;> rfl

@[simp] theorem table_finish (s : State) (a : Alphabet) : s.finish.table a = s.table a := by
  cases a <;> rfl

@[simp] theorem table_newSession (s : State) (a : Alphabet) : s.newSession.table a = s.table a := by
  cases a <;> rfl

theorem KeepsTables.trans {s t u : State} (h : KeepsTables s t) (h' : KeepsTables t u) : KeepsTables s u :=
  ⟨fun a => (h'.1 a).trans (h.1 a), h'.2.trans h.2⟩

theorem keepsTables_raise (s : State) (k : ErrorKind) : KeepsTables s (s.raise k) := ⟨table_raise s k, rfl⟩

theorem keepsTables_finish (s : State) : KeepsTables s s.finish := ⟨table_finish s, rfl⟩

theorem keepsTables_newSession (s : State) : KeepsTables s s.newSession := ⟨table_newSession s, rfl⟩

theorem SameButEmit.keepsTables {s t : State} (h : SameButEmit s t) : KeepsTables s t := by
  rw [h]; exact ⟨fun a => by cases a <;> rfl, rfl⟩

theorem SameButFetch.keepsTables {s t : State} (h : SameButFetch s t) : KeepsTables s t :=
  ⟨h.table, by rw [h]⟩

/-! ### Every instruction -/

/-- What an instruction keeps: the tables, and while a session runs a cleared `first_fill`
(R25, R35). -/
def InstrKeeps (s t : State) : Prop :=
  KeepsTables s t ∧ (s.firstFill = false → t.running = true → t.firstFill = false)

theorem EmitKeeps.instr {s t : State} (h : EmitKeeps s t) : InstrKeeps s t :=
  ⟨h.1.keepsTables, fun hs _ => h.2 hs⟩

theorem ReadOnly.instr {h : Bool} {s t : State} (e : ReadOnly h s t) : InstrKeeps s t := by
  have hf := e.1.1
  refine ⟨hf.keepsTables, fun hs _ => ?_⟩
  rw [hf]; exact hs

/-- What ends a session keeps the tables; it leaves no session running. -/
theorem InstrKeeps.ended {s t u : State} (h : InstrKeeps s t) (hk : KeepsTables t u)
    (hu : u.running = false) : InstrKeeps s u :=
  ⟨h.1.trans hk, fun _ hr => by rw [hu] at hr; cases hr⟩

/-- An operation run as an instruction: a raise ends the session. -/
theorem toOutcome_keeps {s t : State} {r : Res Unit} (e : r.toOutcome = .next t)
    (h : r.All (InstrKeeps s)) : InstrKeeps s t := by
  rcases Res.toOutcome_eq_next.mp e with hr | ⟨k, u, hr, rfl⟩
  · exact h.ok hr
  · exact (h.raised hr).ended (keepsTables_raise u k) rfl

/-- An operation that emits bytes, run as an instruction. -/
theorem toOutcome_emits {s t : State} {r : Res Unit} (e : r.toOutcome = .next t)
    (h : r.All (EmitKeeps s)) : InstrKeeps s t :=
  toOutcome_keeps e (h.mono fun _ => EmitKeeps.instr)

/-- An operation that reads the stream and then writes no table and no `first_fill`, run as an
instruction. -/
theorem toOutcome_reads {s t : State} {h : Bool} {r : Res α} {g : α → State → State}
    (e : (r.bind fun a u => .ok () (g a u)).toOutcome = .next t) (hr : r.All (ReadOnly h s))
    (hg : ∀ a u, InstrKeeps s u → InstrKeeps s (g a u)) : InstrKeeps s t :=
  toOutcome_keeps e (hr.bindTo (fun _ => ReadOnly.instr) fun a u hu => hg a u hu.instr)

/-- `HDR` with legal fields writes them and enters the decode loop (R212). -/
theorem exec_hdr_legal {lit dict : Byte} (hl : legalLit lit = true) (hd : legalDict dict = true) (s : State) :
    exec (.hdr lit dict) s = .next { s with lit := lit, dict := dict, state := .decodeLoop } := by
  show ((headerLit lit s).bind fun _ s =>
    (headerDict dict s).bind fun _ s => .ok () { s with state := .decodeLoop }).toOutcome = _
  rw [headerLit, if_pos hl, Res.bind_ok, headerDict, if_pos hd]
  rfl

/-- `HDR` with an illegal field ends the session (R212). -/
theorem exec_hdr_illegal {lit dict : Byte} (h : legalLit lit = true → legalDict dict = false) (s : State) :
    ∃ u, KeepsTables s u ∧ exec (.hdr lit dict) s = .next (u.raise .formatError) := by
  show ∃ u, KeepsTables s u ∧ ((headerLit lit s).bind fun _ s =>
    (headerDict dict s).bind fun _ s => .ok () { s with state := .decodeLoop }).toOutcome = _
  by_cases hl : legalLit lit = true
  · refine ⟨{ s with lit := lit, dict := dict }, ⟨fun a => by cases a <;> rfl, rfl⟩, ?_⟩
    rw [headerLit, if_pos hl, Res.bind_ok, headerDict, if_neg (Bool.eq_false_iff.mp (h hl))]
    rfl
  · refine ⟨{ s with lit := lit }, ⟨fun a => by cases a <;> rfl, rfl⟩, ?_⟩
    rw [headerLit, if_neg hl]
    rfl

/-- A code row sets `sym` (R172). -/
theorem exec_code {i : Instr} {p : Alphabet × Nat} (h : i.codeSym? = some p) (s : State) :
    exec i s = .next (s.setSym p.2) := by
  cases i <;> cases h <;> rfl

/-- The instructions by their meaning: the code rows as one case, by the symbol they stand for. -/
theorem instr_rowCases {P : Instr → Prop} (code : ∀ i p, i.codeSym? = some p → P i)
    (readme : P .readme) (hdr : ∀ lit dict, P (.hdr lit dict)) (litRaw : ∀ b, P (.litRaw b))
    (litHuf : ∀ b, P (.litHuf b)) (match2 : ∀ dist, P (.match2 dist))
    (matchN : ∀ len dist, P (.matchN len dist)) (endMark : P .endMark) (start : P .start)
    (takeBits : ∀ n, P (.takeBits n)) (fetchByte : P .fetchByte)
    (construct : ∀ a list n, P (.construct a list n)) (decode : ∀ a, P (.decode a))
    (putByte : ∀ b, P (.putByte b)) (copy : ∀ len dist, P (.copy len dist)) (flush : P .flush)
    (wrap : P .wrap) (i : Instr) : P i := by
  cases i with
  | readme => exact readme
  | hdr lit dict => exact hdr lit dict
  | litRaw b => exact litRaw b
  | litHuf b => exact litHuf b
  | match2 dist => exact match2 dist
  | matchN len dist => exact matchN len dist
  | endMark => exact endMark
  | start => exact start
  | takeBits n => exact takeBits n
  | fetchByte => exact fetchByte
  | construct a list n => exact construct a list n
  | decode a => exact decode a
  | putByte b => exact putByte b
  | copy len dist => exact copy len dist
  | flush => exact flush
  | wrap => exact wrap
  | _ => exact code _ _ rfl

/-- Every instruction but `start` and `construct` keeps the tables, and a cleared `first_fill` while the
session goes on (R25, R35, R170, R197). -/
theorem exec_keeps {i : Instr} {s t : State} (hs : i ≠ .start)
    (hc : ∀ a list n, i ≠ .construct a list n) (h : exec i s = .next t) : InstrKeeps s t := by
  cases i using instr_rowCases with
  | code i p hp =>
    rw [exec_code hp] at h
    cases h
    exact ⟨⟨table_setSym s _, rfl⟩, fun hf _ => hf⟩
  | readme => cases h
  | hdr lit dict =>
    by_cases hlegal : legalLit lit = true → legalDict dict = false
    · obtain ⟨u, hu, e⟩ := exec_hdr_illegal hlegal s
      rw [e] at h
      cases h
      exact ⟨hu.trans (keepsTables_raise u _), fun _ hr => by cases hr⟩
    · rw [Classical.not_imp, Bool.not_eq_false] at hlegal
      rw [exec_hdr_legal hlegal.1 hlegal.2] at h
      cases h
      exact ⟨⟨fun a => by cases a <;> rfl, rfl⟩, fun hf _ => hf⟩
  | litRaw b => exact toOutcome_emits h (putByte_all b s)
  | litHuf b => exact toOutcome_emits h (putByte_all b s)
  | match2 dist => exact toOutcome_emits h (backReference_all 2 dist s)
  | matchN len dist => exact toOutcome_emits h (backReference_all len dist s)
  | endMark =>
    exact toOutcome_keeps h ((flush_all s).bindTo (fun _ => EmitKeeps.instr) fun _ u hu =>
      hu.instr.ended (keepsTables_finish u) rfl)
  | start => exact absurd rfl hs
  | takeBits n => exact toOutcome_reads h (takeBits_all true _ s) fun _ _ hu => hu
  | fetchByte => exact toOutcome_reads h (fetchByte_all true s) fun _ _ hu => hu
  | construct a list n => exact absurd rfl (hc a list n)
  | decode a => exact toOutcome_reads h (decodeSym_all true a s) fun _ _ hu => hu
  | putByte b => exact toOutcome_emits h (putByte_all b s)
  | copy len dist => exact toOutcome_emits h (copy_all len dist s)
  | flush => exact toOutcome_emits h (flush_all s)
  | wrap => exact toOutcome_emits h (wrap_all s)

/-- `start` outside a session with the tables built (R211). -/
theorem exec_start_idle {s : State} (hr : s.running = false) (hb : s.tablesBuilt = true) :
    exec .start s = .next s.newSession := by
  show execStart s = _
  rw [execStart, if_neg (Bool.eq_false_iff.mp hr), if_pos hb]

/-- What `start` answers: refusals by name, or the new session (R211, R293). -/
theorem exec_start_next {s t : State} (h : exec .start s = .next t) :
    s.running = false ∧ s.tablesBuilt = true ∧ t = s.newSession := by
  have hexec : exec .start s = execStart s := rfl
  rw [hexec, execStart] at h
  split at h
  · cases h
  · split at h
    · cases h
      exact ⟨Bool.eq_false_iff.mpr ‹_›, ‹_›, rfl⟩
    · cases h

/-- What `construct` answers: the built table in its memory, and the builder's scratch dead (R150). -/
theorem exec_construct_next {a : Alphabet} {list : List Byte} {n : BitVec 9} {s t : State}
    (h : exec (.construct a list n) s = .next t) : ∃ table, t = (s.setTable a table).forgetBuilder := by
  have hexec : exec (.construct a list n) s = (constructInto a list n.toNat s).toOutcome := rfl
  rw [hexec] at h
  rcases constructInto_cases a list n.toNat s with ⟨_, e⟩ | ⟨_, e⟩ <;> rw [e] at h <;> cases h
  exact ⟨_, rfl⟩

theorem setTable_firstFill (s : State) (a : Alphabet) (table : HuffmanTable) :
    (s.setTable a table).firstFill = s.firstFill := by cases a <;> rfl

/-- Settles O50: `start` keeps the tables, and so does every other instruction that is no `construct`. -/
theorem onlyConstructWritesTables : Obligations.OnlyConstructWritesTables := by
  intro i s t hc h
  by_cases hs : i = .start
  · subst hs
    rw [(exec_start_next h).2.2]
    exact keepsTables_newSession s
  · exact (exec_keeps hs hc h).1

/-- Settles O51: `construct` writes no session register, and every other instruction but `start` keeps a
cleared `first_fill` while the session goes on. -/
theorem firstFillStaysClear : Obligations.FirstFillStaysClear := by
  intro i s t hs hf h hrun
  by_cases hc : ∃ a list n, i = .construct a list n
  · obtain ⟨a, list, n, rfl⟩ := hc
    obtain ⟨table, rfl⟩ := exec_construct_next h
    exact (setTable_firstFill s a table).trans hf
  · exact (exec_keeps hs (fun a list n e => hc ⟨a, list, n, e⟩) h).2 hf hrun

end Sys2Proof.Machine

/-! SUPPORT. The tokens by what they do, and which of them a fetch or the decoder answers. -/

namespace Sys2Proof.Machine

/-! ### The tokens by what they do -/

/-- What a token does once its operands are read: emit a byte, copy, or end the session. -/
inductive Effect where
  | byte (b : Byte)
  | copy (len : BitVec 10) (dist : BitVec 13)
  | finish

/-- The effect of a token; the other instructions have none. -/
def effectOf : Instr → Option Effect
  | .litRaw b => some (.byte b)
  | .litHuf b => some (.byte b)
  | .match2 dist => some (.copy 2 dist)
  | .matchN len dist => some (.copy len dist)
  | .endMark => some .finish
  | _ => none

/-- The operation an effect stands for (R214 to R218, R223). -/
def Effect.run : Effect → State → Res Unit
  | .byte b, s => putByte b s
  | .copy len dist, s => backReference len dist s
  | .finish, s => (flush s).bind fun _ s => .ok () s.finish

/-- The distances of R100: the window reaches as far. -/
def Effect.legal : Effect → Prop
  | .copy _ dist => 1 ≤ dist.toNat ∧ dist.toNat ≤ hw.winSize
  | _ => True

theorem exec_effect {i : Instr} {f : Effect} (h : effectOf i = some f) (s : State) :
    exec i s = (f.run s).toOutcome := by
  cases i <;> cases h <;> rfl

/-! ### What a fetch answers -/

theorem fetchLiteral_effect {s t : State} {i : Instr} (h : fetchLiteral s = .ok i t) :
    ∃ b, effectOf i = some (.byte b) := by
  unfold fetchLiteral at h
  split at h <;> obtain ⟨b, u, _, h⟩ := Res.bind_eq_ok.mp h <;> cases h <;> exact ⟨_, rfl⟩

theorem fetchPair_effect {s t : State} {i : Instr} (h : fetchPair s = .ok i t) :
    ∃ f, effectOf i = some f := by
  obtain ⟨len, u, _, h⟩ := Res.bind_eq_ok.mp h
  split at h
  · cases h; exact ⟨.finish, rfl⟩
  · obtain ⟨dist, v, _, h⟩ := Res.bind_eq_ok.mp h
    split at h <;> cases h
    · exact ⟨.copy 2 dist, rfl⟩
    · exact ⟨.copy _ dist, rfl⟩

/-- A token fetched in any state is one of those with an effect (R213). -/
theorem fetchToken_effect {s t : State} {i : Instr} (h : fetchToken s = .ok i t) :
    ∃ f, effectOf i = some f := by
  obtain ⟨c, u, _, h⟩ := Res.bind_eq_ok.mp h
  split at h
  · obtain ⟨b, hb⟩ := fetchLiteral_effect h
    exact ⟨_, hb⟩
  · exact fetchPair_effect h

/-! ### What the decoder answers -/

/-- What a step of the decoder that answers came from. -/
theorem except_bind_ok {ε α β : Type} {x : Except ε α} {f : α → Except ε β} {b : β}
    (h : x.bind f = .ok b) : ∃ a, x = .ok a ∧ f a = .ok b := by
  cases x with
  | error e => cases h
  | ok a => exact ⟨a, rfl, h⟩

theorem takeGroup_lt {n v : Nat} {bits rest : Bits} (h : takeGroup n bits = .ok (v, rest)) : v < 2 ^ n := by
  unfold takeGroup at h
  split at h
  · cases h
  · cases h
    have := bitsToNat_lt (bits.take n)
    rwa [List.length_take_of_le (by omega)] at this

/-- Every distance of R219 lies in the window: 64 symbols and at most 6 extra bits. -/
theorem distOf_bounds {sd x extra : Nat} (hs : sd < 64) (hx : x ≤ 6) (he : extra < 2 ^ x) :
    1 ≤ (BitVec.ofNat 13 (distOf sd x extra)).toNat ∧
      (BitVec.ofNat 13 (distOf sd x extra)).toNat ≤ hw.winSize := by
  have hp : 2 ^ x ≤ 2 ^ 6 := Nat.pow_le_pow_right (by decide) hx
  have hsd : sd <<< x < 2 ^ 12 := by
    rw [Nat.shiftLeft_eq]
    calc sd * 2 ^ x < 64 * 2 ^ x := Nat.mul_lt_mul_of_pos_right hs (Nat.two_pow_pos x)
      _ ≤ 64 * 2 ^ 6 := Nat.mul_le_mul_left 64 hp
      _ = 2 ^ 12 := by decide
  have hor : sd <<< x ||| extra < 2 ^ 12 := Nat.or_lt_two_pow hsd (by omega)
  rw [BitVec.toNat_ofNat, hw_winSize, distOf]
  omega

theorem decodeLiteral_effect {lit : Byte} {bits rest : Bits} {i : Instr}
    (h : decodeLiteral lit bits = .ok (i, rest)) : ∃ b, effectOf i = some (.byte b) := by
  unfold decodeLiteral at h
  split at h <;> obtain ⟨⟨b, _⟩, _, h⟩ := except_bind_ok h <;> cases h <;> exact ⟨_, rfl⟩

/-- A back-reference the decoder answers has a distance in the window (R100). -/
theorem decodePair_effect {dict : Byte} {bits rest : Bits} {i : Instr} (hd : legalDict dict = true)
    (h : decodePair dict bits = .ok (i, rest)) : ∃ f, effectOf i = some f ∧ f.legal := by
  obtain ⟨⟨sl, bits1⟩, _, h⟩ := except_bind_ok h
  obtain ⟨⟨e, bits2⟩, _, h⟩ := except_bind_ok h
  simp only at h
  split at h
  · cases h; exact ⟨.finish, rfl, trivial⟩
  · obtain ⟨⟨sd, bits3⟩, hsd, h⟩ := except_bind_ok h
    obtain ⟨⟨extra, bits4⟩, hextra, h⟩ := except_bind_ok h
    have hdist := distOf_bounds (takeCode_lt hsd) (extraCount_le hd) (takeGroup_lt hextra)
    simp only at h
    split at h <;> cases h
    · exact ⟨.copy 2 _, rfl, hdist⟩
    · exact ⟨.copy _ _, rfl, hdist⟩

/-- A token the decoder answers has an effect in the ranges of R100. -/
theorem decode_token_effect {lit dict : Byte} {bits rest : Bits} {i : Instr} (hd : legalDict dict = true)
    (h : decode (.token lit dict) bits = .ok (i, rest)) : ∃ f, effectOf i = some f ∧ f.legal := by
  match bits, h with
  | false :: _, h =>
    obtain ⟨b, hb⟩ := decodeLiteral_effect h
    exact ⟨_, hb, trivial⟩
  | true :: _, h => exact decodePair_effect hd h

/-- A header the decoder answers has legal fields (R103, R212). -/
theorem decode_header_legal {bits rest : Bits} {i : Instr} (h : decode .header bits = .ok (i, rest)) :
    ∃ lit dict, i = .hdr lit dict ∧ legalLit lit = true ∧ legalDict dict = true := by
  obtain ⟨⟨lit, bits1⟩, _, h⟩ := except_bind_ok h
  simp only at h
  split at h
  · cases h
  · obtain ⟨⟨dict, bits2⟩, _, h⟩ := except_bind_ok h
    simp only at h
    split at h <;> cases h
    exact ⟨_, _, rfl, Bool.eq_true_of_not_eq_false fun e => ‹¬ (!legalLit _) = true› (by rw [e]; rfl),
      Bool.eq_true_of_not_eq_false fun e => ‹¬ (!legalDict _) = true› (by rw [e]; rfl)⟩

/-! ### lit and dict while tokens are decoded -/

theorem effect_run_all (f : Effect) (s : State) :
    (f.run s).All fun t => SameButEmit s t ∨ ∃ u, SameButEmit s u ∧ t = u.finish := by
  cases f with
  | byte b => exact (putByte_all b s).mono fun _ h => .inl h.1
  | copy len dist => exact (backReference_all len dist s).mono fun _ h => .inl h.1
  | finish => exact (flush_all s).bindTo (fun _ h => .inl h.1) fun _ u h => .inr ⟨u, h.1, rfl⟩

/-- A token leaves the header fields, or it ends the session. -/
theorem effect_run_header {f : Effect} {s t : State} (h : (f.run s).toOutcome = .next t)
    (ht : t.state = .decodeLoop) : t.lit = s.lit ∧ t.dict = s.dict := by
  rcases Res.toOutcome_eq_next.mp h with hr | ⟨k, u, _, rfl⟩
  · rcases (effect_run_all f s).ok hr with he | ⟨u, _, rfl⟩
    · rw [he]; exact ⟨rfl, rfl⟩
    · cases ht
  · cases ht

theorem running_iff {s : State} : s.running = true ↔ s.state = .readHeader ∨ s.state = .decodeLoop := by
  unfold State.running
  cases s.state <;> simp

theorem step_start_running {s : State} (hq : s.req = some (.issue .start)) (hr : s.running = true) :
    step s = .refused .startWhileRunning := by
  rw [step_issue hq rfl (booting_running hr) (.inr rfl)]
  exact if_pos hr

/-- Settles O52: hardware reset leaves the loop, `start` is refused there, and a token leaves the header
fields or ends the session. -/
theorem headerFieldsConstant : Obligations.HeaderFieldsConstant := by
  intro s t hq h hs ht
  have hrun := running_iff.mpr (.inr hs)
  rcases hq with hq | hq | hq
  · have hctx : s.ctx = .token s.lit s.dict := by unfold State.ctx; rw [hs]
    rw [step_session hq hrun, hctx] at h
    have hread : (fetchToken s).All (ReadOnly false s) := fetch_all (.token s.lit s.dict) s
    have hfetch : runFetched (fetchToken s) = .next t := h
    cases hf : fetchToken s with
    | ok i u =>
      rw [hf, runFetched_ok] at hfetch
      obtain ⟨f, hi⟩ := fetchToken_effect hf
      rw [exec_effect hi] at hfetch
      obtain ⟨hl, hd⟩ := effect_run_header hfetch ht
      obtain ⟨hl', hd'⟩ := (hread.ok hf).1.2 rfl
      exact ⟨hl.trans hl', hd.trans hd'⟩
    | raised k u =>
      rw [hf] at hfetch
      cases hfetch
      cases ht
    | fault x => rw [hf] at hfetch; cases hfetch
    | refused x => rw [hf] at hfetch; cases hfetch
  · rw [step_hardReset hq] at h
    cases h
    cases ht
  · rw [step_start_running hq hrun] at h
    cases h

end Sys2Proof.Machine

/-! SUPPORT. The invariant: what each operation of a session keeps of it, and that every step of a core
left to its host goes on and keeps it. -/

namespace Sys2Proof.Machine

/-! ### Copies in a window that is in order (R41, R195) -/

/-- The window's part of the invariant. -/
def WindowInv (s : State) : Prop := s.win.wf = true ∧ WindowOk s

/-- What the distance check leaves of a copy's source: during first fill it lies behind `next` (R220). -/
def SourceOk (s : State) : Prop :=
  1 ≤ s.mdist.toNat ∧ (s.firstFill = true → s.mdist.toNat ≤ s.next.toNat)

/-- The byte a copy reads has been written. -/
theorem readWin_source_ok {s : State} (hw : WindowOk s) (hs : SourceOk s) :
    ∃ b, readWin s.sourceIndex s = .ok b s := by
  obtain ⟨hlt, hfirst, hfull⟩ := hw
  obtain ⟨h1, hd⟩ := hs
  have hread : (s.win.read (s.sourceIndex % hw.winSize)).isSome := by
    cases hf : s.firstFill with
    | true =>
      refine hfirst hf _ ?_
      have := hd hf
      unfold State.sourceIndex
      rw [hw_winSize] at *
      omega
    | false => exact hfull hf _ (Nat.mod_lt _ (by decide))
  obtain ⟨b, hb⟩ := Option.isSome_iff_exists.mp hread
  exact ⟨b, by rw [readWin, hb]⟩

/-- A byte emitted keeps the window's part of the invariant, or its push fails (R193). -/
theorem putByte_windowInv {b : Byte} {s : State} (h : WindowInv s) :
    (∃ t, putByte b s = .ok () t ∧ WindowInv t) ∨ ∃ t, putByte b s = .raised .outputError t := by
  rcases putByte_keeps (b := b) h.2 with ⟨t, ht, hok⟩ | hraise
  · refine .inl ⟨t, ht, ?_, hok⟩
    rw [putByte_win ht]
    exact wf_write h.1 (Nat.mod_lt _ (by decide)) b
  · exact .inr hraise

/-- The cursor after a byte stays below the 13 bits of its register (R28). -/
theorem toNat_next_add {s : State} (h : s.next.toNat < hw.winSize) :
    (s.next + 1).toNat = s.next.toNat + 1 := by
  rw [hw_winSize] at h
  rw [BitVec.toNat_add]
  show (s.next.toNat + 1) % 2 ^ 13 = _
  omega

/-- The source of a copy stays in order, since `next` moves on or the first fill ends (R76). -/
theorem putByte_sourceOk {b : Byte} {s t : State} (hw : WindowOk s) (h : SourceOk s)
    (ht : putByte b s = .ok () t) : SourceOk t := by
  rcases putByte_ok ht with ⟨_, rfl⟩ | ⟨_, u, hu, rfl⟩
  · refine ⟨h.1, fun hf => ?_⟩
    have hle : s.mdist.toNat ≤ s.next.toNat := h.2 hf
    show s.mdist.toNat ≤ (s.next + 1).toNat
    rw [toNat_next_add hw.1]
    omega
  · refine ⟨?_, fun hf => Bool.noConfusion (show false = true from hf)⟩
    show 1 ≤ u.mdist.toNat
    rw [flush_frame hu]
    exact h.1

/-- A copy from a source that is in order keeps the window's part of the invariant, or a push fails. -/
theorem copyLoop_windowInv : ∀ (n : Nat) {s : State}, WindowInv s → SourceOk s →
    (∃ t, copyLoop n s = .ok () t ∧ WindowInv t) ∨ ∃ t, copyLoop n s = .raised .outputError t
  | 0, s, h, _ => .inl ⟨s, rfl, h⟩
  | n + 1, s, h, hs => by
    obtain ⟨b, hb⟩ := readWin_source_ok h.2 hs
    rw [copyLoop, hb, Res.bind_ok]
    rcases putByte_windowInv (b := b) h with ⟨t, ht, hinv⟩ | ⟨t, ht⟩
    · rw [ht, Res.bind_ok]
      have hsource : SourceOk t := putByte_sourceOk h.2 hs ht
      exact copyLoop_windowInv n (s := { t with mlen := BitVec.ofNat 10 n }) hinv hsource
    · exact .inr ⟨t, by rw [ht, Res.bind_raised]⟩

/-- A back-reference in a running session ends with a value or raises; it never faults (R41, R220). -/
theorem backReference_windowInv {len : BitVec 10} {dist : BitVec 13} {s : State} (h : WindowInv s)
    (hd : 1 ≤ dist.toNat) :
    (∃ t, backReference len dist s = .ok () t ∧ WindowInv t) ∨
      ∃ k t, backReference len dist s = .raised k t := by
  unfold backReference
  simp only
  split
  · exact .inr ⟨_, _, rfl⟩
  · rename_i hnear
    have hsource : SourceOk { s with mlen := len, mdist := dist } := by
      refine ⟨hd, fun hf => ?_⟩
      have hnot : ¬ s.next < dist := fun hlt => hnear (by
        unfold State.distanceTooFar
        rw [Bool.and_eq_true]
        exact ⟨hf, decide_eq_true hlt⟩)
      rw [BitVec.lt_def] at hnot
      exact Nat.le_of_not_lt hnot
    rcases copyLoop_windowInv len.toNat (s := { s with mlen := len, mdist := dist }) h hsource with
      ⟨t, ht, hinv⟩ | ⟨t, ht⟩
    · exact .inl ⟨t.forgetMatch, by rw [copy, ht, Res.bind_ok], hinv⟩
    · exact .inr ⟨_, t, by rw [copy, ht, Res.bind_raised]⟩

/-! ### States that meet the invariant -/

/-- Outside a session the invariant speaks of the memories only. -/
theorem inv_of_not_running {s : State} (hwf : s.win.wf = true) (hsz : SymbolSizes s)
    (ht : s.tablesBuilt = true → TablesFixed s) (hb : s.state ≠ .idle → s.tablesBuilt = true)
    (hr : s.running = false) : Inv s where
  memory := hwf
  sizes := hsz
  tables := ht
  built := hb
  reader h := by rw [hr] at h; cases h
  window h := by rw [hr] at h; cases h
  header h := by unfold State.running at hr; rw [h] at hr; cases hr

theorem symbolSizes_of_fixed {s : State} (h : TablesFixed s) : SymbolSizes s := by
  intro a
  rw [h a]
  cases a <;> decide +kernel

/-- A running session has the tables built (R293). -/
theorem Inv.tablesBuilt_of_running {s : State} (h : Inv s) (hr : s.running = true) :
    s.tablesBuilt = true := h.built fun hs => by unfold State.running at hr; rw [hs] at hr; cases hr

theorem Inv.tablesFixed {s : State} (h : Inv s) (hr : s.running = true) : TablesFixed s :=
  h.tables (h.tablesBuilt_of_running hr)

/-- A session that ends keeps the fixed tables, and no window byte has a value any more (R42). -/
theorem inv_of_ended {s t : State} (h : Inv s) (hr : s.running = true) (hk : KeepsTables s t)
    (hw : t.win = []) (ht : t.running = false) : Inv t :=
  have hfixed : TablesFixed t := fun a => (hk.1 a).trans (h.tablesFixed hr a)
  inv_of_not_running (by rw [hw]; rfl) (symbolSizes_of_fixed hfixed) (fun _ => hfixed)
    (fun _ => hk.2.trans (h.tablesBuilt_of_running hr)) ht

theorem inv_hardReset (s : State) : Inv s.hardReset :=
  inv_of_not_running rfl (Inv.sizes (s := State.reset) invReset)
    (fun h => absurd h Bool.false_ne_true) (fun h => absurd rfl h) rfl

/-- A new session starts with an empty reader and an empty window (R211). -/
theorem inv_newSession {s : State} (h : Inv s) (hb : s.tablesBuilt = true) : Inv s.newSession :=
  have hfixed : TablesFixed s.newSession := fun a => (table_newSession s a).trans (h.tables hb a)
  { memory := h.memory
    sizes := symbolSizes_of_fixed hfixed
    tables := fun _ => hfixed
    built := fun _ => hb
    reader := fun _ => ⟨(by decide : (0 : BitVec 5).toNat ≤ 7),
      (by decide : (0 : BitVec 23).toNat < 2 ^ (0 : BitVec 5).toNat)⟩
    window := fun _ => ⟨(by decide : (0 : BitVec 13).toNat < 4096),
      fun _ a ha => absurd ha (Nat.not_lt_zero a), fun hf => Bool.noConfusion (show true = false from hf)⟩
    header := fun hs => by cases hs }

/-- Reading the stream keeps the invariant where the reader is in order again and tokens keep the header
fields. -/
theorem Inv.fetched {s u : State} (h : Inv s) (hf : SameButFetch s u) (hr : ReaderOk u)
    (hd : s.state = .decodeLoop → u.lit = s.lit ∧ u.dict = s.dict) : Inv u := by
  have htable : ∀ a, u.table a = s.table a := hf.table
  have hstate : u.state = s.state := by rw [hf]
  have hbuilt : u.tablesBuilt = s.tablesBuilt := by rw [hf]
  refine ⟨by rw [hf]; exact h.memory, fun a => by rw [htable]; exact h.sizes a,
    fun hb a => by rw [htable]; exact h.tables (hbuilt ▸ hb) a,
    fun hs => by rw [hbuilt]; exact h.built (hstate ▸ hs), fun _ => hr, fun hrun => ?_, fun hs => ?_⟩
  · have hw := h.window (by unfold State.running at *; rwa [hstate] at hrun)
    rw [hf]; exact hw
  · rw [hstate] at hs
    rw [(hd hs).1, (hd hs).2]
    exact h.header hs

/-- Emitting bytes keeps the invariant where it keeps the window's part. -/
theorem Inv.emitted {s t : State} (h : Inv s) (he : SameButEmit s t) (hw : WindowInv t) : Inv t := by
  obtain ⟨hmem, hwin⟩ := hw
  rw [he] at hmem hwin ⊢
  exact ⟨hmem, h.sizes, h.tables, h.built, h.reader, fun _ => hwin, h.header⟩

/-- A running session's window is in order. -/
theorem Inv.windowInv {s : State} (h : Inv s) (hr : s.running = true) : WindowInv s :=
  ⟨h.memory, h.window hr⟩

/-- `END` in a window that is in order ends the session, or its push fails (R225). -/
theorem finish_cases {s : State} (h : WindowOk s) :
    (∃ u, flush s = .ok () u ∧ Effect.finish.run s = .ok () u.finish) ∨
      ∃ u, Effect.finish.run s = .raised .outputError u := by
  have hwritten : ∀ a < s.next.toNat, (s.win.read (a % hw.winSize)).isSome := by
    intro a ha
    have hlt : a < hw.winSize := Nat.lt_trans ha h.1
    rw [Nat.mod_eq_of_lt hlt]
    cases hf : s.firstFill with
    | true => exact h.2.1 hf a ha
    | false => exact h.2.2 hf a hlt
  rcases flush_completes hwritten with ⟨u, hu⟩ | ⟨u, hu⟩
  · exact .inl ⟨u, hu, by rw [Effect.run, hu, Res.bind_ok]⟩
  · exact .inr ⟨u, by rw [Effect.run, hu, Res.bind_raised]⟩

/-- A token keeps the tables and what waits at the interfaces. -/
theorem effect_run_frame (f : Effect) (s : State) :
    (f.run s).All fun t => KeepsTables s t ∧ t.req = s.req := by
  refine (effect_run_all f s).mono fun t ht => ?_
  rcases ht with he | ⟨u, he, rfl⟩
  · exact ⟨he.keepsTables, by rw [he]⟩
  · exact ⟨he.keepsTables.trans (keepsTables_finish u), by rw [he]; rfl⟩

/-- A token in a running session ends with a state that meets the invariant, or raises (R41, R43). -/
theorem effect_run_inv {f : Effect} {s : State} (h : Inv s) (hr : s.running = true) (hf : f.legal) :
    (∃ t, f.run s = .ok () t ∧ Inv t) ∨ ∃ k t, f.run s = .raised k t := by
  have hw := h.windowInv hr
  cases f with
  | byte b =>
    rcases putByte_windowInv (b := b) hw with ⟨t, ht, hinv⟩ | ⟨t, ht⟩
    · exact .inl ⟨t, ht, h.emitted ((putByte_all b s).ok ht).1 hinv⟩
    · exact .inr ⟨_, t, ht⟩
  | copy len dist =>
    rcases backReference_windowInv (len := len) hw hf.1 with ⟨t, ht, hinv⟩ | hraise
    · exact .inl ⟨t, ht, h.emitted ((backReference_all len dist s).ok ht).1 hinv⟩
    · exact .inr hraise
  | finish =>
    rcases finish_cases hw.2 with ⟨u, hu, ht⟩ | ⟨u, hu⟩
    · have hk : KeepsTables s u := ((flush_all s).ok hu).1.keepsTables
      exact .inl ⟨u.finish, ht, inv_of_ended h hr (hk.trans (keepsTables_finish u)) rfl rfl⟩
    · exact .inr ⟨_, u, hu⟩

/-! ### The step of a running session -/

theorem Inv.ctx_legal {s : State} (h : Inv s) : s.ctx.legal = true := by
  unfold State.ctx
  split
  · rename_i hs
    exact Bool.and_eq_true_iff.mpr (h.header hs)
  · rfl

/-- A read that keeps the header fields is one that may write them. -/
theorem FetchKeeps.weaken {h : Bool} {s t : State} (hk : FetchKeeps h s t) : FetchKeeps true s t :=
  ⟨hk.1, fun e => Bool.noConfusion e⟩

/-- What a step of a running session does (R213, R230): it raises while fetching, it enters the decode
loop with legal header fields, or it runs a token whose operands are in range. -/
theorem session_step_cases {s : State} (h : Inv s) (hr : s.running = true) (hq : s.req = none) :
    (∃ k u, step s = .next (u.raise k) ∧ ReadOnly true s u) ∨
    (∃ lit dict u, step s = .next { u with lit := lit, dict := dict, state := .decodeLoop } ∧
      legalLit lit = true ∧ legalDict dict = true ∧ Inv u ∧ u.running = true ∧ ReadOnly true s u) ∨
    (∃ f u, step s = (Effect.run f u).toOutcome ∧ f.legal ∧ Inv u ∧ u.running = true ∧
      ReadOnly true s u) := by
  have hreads := fetch_reads (h.reader hr) (h.tablesFixed hr) (.inl rfl) h.ctx_legal
  rw [step_session hq hr]
  cases hdec : decode s.ctx s.bits with
  | error e =>
    rw [hdec] at hreads
    obtain ⟨u, hu, hk, hp⟩ := hreads
    exact .inl ⟨_, u, by rw [hu, runFetched_raised], hk.weaken, hp⟩
  | ok p =>
    obtain ⟨i, rest⟩ := p
    rw [hdec] at hreads
    obtain ⟨u, hu, _, hur, hk, hp, _⟩ := hreads
    have hread : ReadOnly true s u := ⟨hk.weaken, hp⟩
    have hrun : u.running = true := by rw [hk.1]; exact hr
    rw [hu, runFetched_ok]
    rcases running_iff.mp hr with hs | hs
    · have hctx : s.ctx = .header := by unfold State.ctx; rw [hs]
      rw [hctx] at hdec
      obtain ⟨lit, dict, rfl, hl, hd⟩ := decode_header_legal hdec
      exact .inr (.inl ⟨lit, dict, u, exec_hdr_legal hl hd u, hl, hd,
        h.fetched hk.1 hur (fun e => by rw [hs] at e; cases e), hrun, hread⟩)
    · have hctx : s.ctx = .token s.lit s.dict := by unfold State.ctx; rw [hs]
      rw [hctx] at hdec hk
      obtain ⟨f, hf, hlegal⟩ := decode_token_effect (h.header hs).2 hdec
      exact .inr (.inr ⟨f, u, exec_effect hf u, hlegal,
        h.fetched hk.1 hur fun _ => hk.2 rfl, hrun, hread⟩)

/-- A legal header takes a running session to its tokens. -/
theorem Inv.enterLoop {s : State} (h : Inv s) (hr : s.running = true) {lit dict : Byte}
    (hl : legalLit lit = true) (hd : legalDict dict = true) :
    Inv { s with lit := lit, dict := dict, state := .decodeLoop } where
  memory := h.memory
  sizes := h.sizes
  tables := h.tables
  built _ := h.tablesBuilt_of_running hr
  reader _ := h.reader hr
  window _ := h.window hr
  header _ := ⟨hl, hd⟩

/-- A running session goes on and keeps the invariant. -/
theorem session_step_inv {s : State} (h : Inv s) (hr : s.running = true) (hq : s.req = none) :
    ∃ t, step s = .next t ∧ Inv t ∧ t.req = none := by
  have hreq {u : State} (hu : ReadOnly true s u) : u.req = none := by rw [hu.1.1]; exact hq
  rcases session_step_cases h hr hq with ⟨k, u, e, hu⟩ | ⟨lit, dict, u, e, hl, hd, hinv, hrun, hu⟩ |
    ⟨f, u, e, hf, hinv, hrun, hu⟩
  · exact ⟨_, e, inv_of_ended h hr (hu.1.1.keepsTables.trans (keepsTables_raise u k)) rfl rfl,
      (hreq hu : u.req = none)⟩
  · exact ⟨_, e, hinv.enterLoop hrun hl hd, (hreq hu : u.req = none)⟩
  · rw [e]
    rcases effect_run_inv hinv hrun hf with ⟨t, ht, htinv⟩ | ⟨k, t, ht⟩
    · exact ⟨t, by rw [ht, Res.toOutcome_ok], htinv, ((effect_run_frame f u).ok ht).2.trans (hreq hu)⟩
    · obtain ⟨hk, htreq⟩ := (effect_run_frame f u).raised ht
      exact ⟨_, by rw [ht, Res.toOutcome_raised],
        inv_of_ended hinv hrun (hk.trans (keepsTables_raise t k)) rfl rfl, htreq.trans (hreq hu)⟩

/-! ### Every step -/

/-- The boot build leaves the fixed tables (R292). -/
theorem boot_step_inv {s : State} (h : Inv s) (hb : s.booting = true) (hq : s.req = none) :
    ∃ t, step s = .next t ∧ Inv t ∧ t.req = none := by
  obtain ⟨t, ht, hfixed, e⟩ := boot_spec h.sizes
  have hidle : s.state = .idle := by
    unfold State.booting at hb
    simpa using (Bool.and_eq_true_iff.mp hb).1
  refine ⟨t, ?_, ?_, by rw [e]; exact hq⟩
  · rw [step_boot (by rw [hq]; simp) (by rw [hq]; simp) hb, ht, Res.toOutcome_ok]
  · refine inv_of_not_running (by rw [e]; exact h.memory) (symbolSizes_of_fixed hfixed)
      (fun _ => hfixed) (fun _ => by rw [e]) ?_
    rw [e]
    unfold State.running
    rw [hidle]

/-- `start` outside a session with the tables built (R211, R232). -/
theorem start_step_inv {s : State} (h : Inv s) (hr : s.running = false) (hb : s.tablesBuilt = true)
    (hq : s.req = some (.issue .start)) : ∃ t, step s = .next t ∧ Inv t ∧ t.req = none := by
  have hboot : s.booting = false := by unfold State.booting; rw [hb]; simp
  refine ⟨({ s with req := none } : State).newSession, ?_, ?_, rfl⟩
  · rw [step_issue hq rfl hboot (.inr rfl)]
    exact exec_start_idle hr hb
  · have hinv : Inv { s with req := none } :=
      ⟨h.memory, h.sizes, h.tables, h.built, h.reader, h.window, h.header⟩
    exact inv_newSession hinv hb

/-- A core left to its host goes on and keeps the invariant, but for a `start` that is refused (R41, R43,
R211, R293). -/
theorem step_inv {s : State} (h : Inv s) (hq : HostOnly s)
    (hs : ¬ ((s.running = true ∨ s.tablesBuilt = false) ∧ s.req = some (.issue .start))) :
    ∃ t, step s = .next t ∧ Inv t ∧ t.req = none := by
  rcases hq with hq | hq | hq
  · cases hr : s.running with
    | true => exact session_step_inv h hr hq
    | false =>
      cases hb : s.booting with
      | true => exact boot_step_inv h hb hq
      | false => exact ⟨s, step_quiet hq hr hb, h, hq⟩
  · exact ⟨_, step_hardReset hq, inv_hardReset s, rfl⟩
  · have hidle : ¬ (s.running = true ∨ s.tablesBuilt = false) := fun e => hs ⟨e, hq⟩
    rw [not_or, Bool.not_eq_true, Bool.not_eq_false] at hidle
    exact start_step_inv h hidle.1 hidle.2 hq

/-- A `start` to a running core, or before the tables are built, is answered by no next state. -/
theorem step_start_refused {s t : State} (h : Inv s) (hs : s.running = true ∨ s.tablesBuilt = false)
    (hq : s.req = some (.issue .start)) : step s ≠ .next t := by
  by_cases hr : s.running = true
  · rw [step_start_running hq hr]; simp
  · have hb := hs.resolve_left hr
    have hidle : s.state = .idle := by
      by_contra hne
      rw [h.built hne] at hb
      cases hb
    rw [step_start_booting hq (by unfold State.booting; rw [hb, hidle]; rfl)]
    simp

/-- Settles O46: the step that keeps the invariant is there. -/
theorem invProgress : Obligations.InvProgress := by
  intro s h hq hs
  obtain ⟨t, ht, _⟩ := step_inv h hq hs
  exact ⟨t, ht⟩

/-- Settles O45: a step that answers is no refused `start`, so it keeps the invariant. -/
theorem invKept : Obligations.InvKept := by
  intro s t h hq ht
  obtain ⟨u, hu, hinv, hreq⟩ := step_inv h hq fun ⟨hs, hstart⟩ => step_start_refused h hs hstart ht
  rw [hu] at ht
  cases ht
  exact ⟨hinv, .inl hreq⟩

end Sys2Proof.Machine

/-! SUPPORT. What a step of a session adds to the bytes emitted, and what of them it has pushed. -/

namespace Sys2Proof.Machine

/-! ### Histories of two states -/

theorem out_of_pushes {s t : State} (h : t.pushes = s.pushes) : t.out = s.out := by
  unfold State.out; rw [h]

/-- A read of the stream emits nothing. -/
theorem ReadOnly.history {h : Bool} {s t : State} {e : List Byte} (hr : ReadOnly h s t) (hh : History s e) :
    History t e := by
  rw [hr.1.1]
  exact ⟨hh.next, hh.fill, hh.recent⟩

theorem ReadOnly.flushed {h : Bool} {s t : State} {o e : List Byte} (hr : ReadOnly h s t)
    (hf : Flushed s o e) : Flushed t o e := (out_of_pushes hr.2).trans hf

/-! ### Copies -/

/-- A copy appends to the history. -/
theorem expand_append : ∀ (n dist : Nat) (e : List Byte), ∃ x, expand n dist e = e ++ x
  | 0, _, e => ⟨[], (List.append_nil e).symm⟩
  | n + 1, dist, e => by
    obtain ⟨x, hx⟩ := expand_append n dist (e ++ [e.getD (e.length - dist) 0])
    exact ⟨_, hx.trans (List.append_assoc ..)⟩

/-- A distance the check of R220 lets pass reaches no further than the bytes emitted. -/
theorem History.dist_le {s : State} {e : List Byte} (h : History s e) {dist : BitVec 13}
    (hd : dist.toNat ≤ hw.winSize) (hnear : ¬ (s.firstFill && decide (s.next < dist)) = true) :
    dist.toNat ≤ e.length := by
  have hn := h.next
  by_cases hlt : e.length < hw.winSize
  · have hfill : s.firstFill = true := by rw [h.fill]; exact decide_eq_true hlt
    rw [hfill, Bool.true_and, decide_eq_true_eq, BitVec.lt_def] at hnear
    rw [Nat.mod_eq_of_lt hlt] at hn
    omega
  · omega

/-- A back-reference that ends with a value appends to the history, and the windows it fills are pushed
(R199, R200, R202). -/
theorem backReference_ok_history {len : BitVec 10} {dist : BitVec 13} {s t : State} {o e : List Byte}
    (hh : History s e) (hf : Flushed s o e) (h1 : 1 ≤ dist.toNat) (h2 : dist.toNat ≤ hw.winSize)
    (h : backReference len dist s = .ok () t) : ∃ x, History t (e ++ x) ∧ Flushed t o (e ++ x) := by
  unfold backReference at h
  simp only at h
  split at h
  · cases h
  · rename_i hnear
    obtain ⟨_, u, hu, ht⟩ := Res.bind_eq_ok.mp h
    cases ht
    obtain ⟨x, hx⟩ := expand_append len.toNat dist.toNat e
    obtain ⟨kh, kf⟩ := copyLoop_ok_history len.toNat (s := { s with mlen := len, mdist := dist }) (e := e)
      ⟨hh.next, hh.fill, hh.recent⟩ h1 (hh.dist_le h2 hnear) h2 hu
    have kf' := kf o hf
    rw [show ({ s with mlen := len, mdist := dist } : State).mdist = dist from rfl, hx] at kh kf'
    exact ⟨x, ⟨kh.next, kh.fill, kh.recent⟩, kf'⟩

/-! ### Where a token raises -/

/-- A copy raises nothing but `OutputError` (R254). -/
theorem copyLoop_raised : ∀ (n : Nat) {s t : State} {k : ErrorKind}, copyLoop n s = .raised k t →
    k = .outputError
  | 0, _, _, _, h => by cases h
  | n + 1, s, t, k, h => by
    rcases Res.bind_eq_raised.mp h with h | ⟨b, u, _, h⟩
    · unfold readWin at h
      split at h <;> cases h
    · rcases Res.bind_eq_raised.mp h with h | ⟨_, v, _, h⟩
      · exact (putByte_raised h).2.2
      · exact copyLoop_raised n h

/-- A back-reference that raises has failed a push, or it is too far and has pushed nothing (R253). -/
theorem backReference_raised {len : BitVec 10} {dist : BitVec 13} {s t : State} {k : ErrorKind}
    (h : backReference len dist s = .raised k t) : k = .outputError ∨ t.out = s.out := by
  unfold backReference at h
  simp only at h
  split at h
  · cases h; exact .inr rfl
  · rcases Res.bind_eq_raised.mp h with h | ⟨_, _, _, h⟩
    · exact .inl (copyLoop_raised _ h)
    · cases h

theorem effect_run_raised {f : Effect} {s t : State} {k : ErrorKind} (h : f.run s = .raised k t) :
    k = .outputError ∨ t.out = s.out := by
  cases f with
  | byte b => exact .inl (putByte_raised h).2.2
  | copy len dist => exact backReference_raised h
  | finish =>
    rcases Res.bind_eq_raised.mp h with h | ⟨_, _, _, h⟩
    · exact .inl (flush_raised h).1
    · cases h

/-! ### The last flush -/

/-- The window below `next` holds the history since the last whole window (R43 c, R200). -/
theorem History.window_run {s : State} {e : List Byte} (h : History s e) :
    s.win.readRun 0 s.next.toNat = some (e.drop (e.length / hw.winSize * hw.winSize)) := by
  have hn := h.next
  have hsplit := Nat.div_add_mod' e.length hw.winSize
  have hlt : e.length % hw.winSize < hw.winSize := Nat.mod_lt _ (by decide)
  have hread : ∀ i < s.next.toNat,
      s.win.read ((0 + i) % hw.winSize) = e[e.length / hw.winSize * hw.winSize + i]? := by
    intro i hi
    rw [← h.recent _ (by omega) (by omega), Nat.zero_add, Nat.mul_add_mod_self_right]
  obtain ⟨bs, h1, h2, h3⟩ := readRun_eq_some (m := s.win) (n := s.next.toNat) (a := 0) fun i hi => by
    rw [hread i hi, List.getElem?_eq_getElem (by omega)]; rfl
  rw [h1, Option.some.injEq]
  refine List.ext_getElem? fun i => ?_
  by_cases hi : i < s.next.toNat
  · rw [← h3 i hi, hread i hi, List.getElem?_drop]
  · rw [List.getElem?_eq_none (by omega), List.getElem?_eq_none (by rw [List.length_drop]; omega)]

/-- A flush that is accepted delivers what the whole windows have left (R196, R202). -/
theorem flush_delivers {s t : State} {o e : List Byte} (hh : History s e) (hf : Flushed s o e)
    (h : flush s = .ok () t) : t.out = o ++ e := by
  have hn := hh.next
  unfold Flushed at hf
  by_cases h0 : s.next.toNat = 0
  · rw [flush_empty h0] at h
    cases h
    rw [hf, List.take_of_length_le]
    have := Nat.div_add_mod' e.length hw.winSize
    omega
  · rw [flush_push h0 hh.window_run] at h
    split at h
    · cases h
    · rename_i hans
      cases h
      rw [out_append s _ _ _ (push_pushes _ s), if_neg hans, hf, List.append_assoc, List.take_append_drop]

/-- A token that ends with a value appends to the history, or it ends the session and all is
delivered. -/
theorem effect_run_history {f : Effect} {s t : State} {o e : List Byte} (hh : History s e)
    (hf : Flushed s o e) (hl : f.legal) (h : f.run s = .ok () t) :
    (∃ x, History t (e ++ x) ∧ Flushed t o (e ++ x) ∧ t.state = s.state) ∨
      (t.state = .done ∧ t.out = o ++ e) := by
  cases f with
  | byte b =>
    obtain ⟨kh, kf⟩ := putByte_ok_history hh h
    exact .inl ⟨[b], kh, kf o hf, by rw [((putByte_all b s).ok h).1]⟩
  | copy len dist =>
    obtain ⟨x, kh, kf⟩ := backReference_ok_history hh hf hl.1 hl.2 h
    exact .inl ⟨x, kh, kf, by rw [((backReference_all len dist s).ok h).1]⟩
  | finish =>
    obtain ⟨_, u, hu, ht⟩ := Res.bind_eq_ok.mp h
    cases ht
    exact .inr ⟨rfl, (flush_delivers hh hf hu : u.out = o ++ e)⟩

/-! ### The step -/

/-- What a step of a session from `s` to `t` leaves delivered of the bytes emitted before it, `e`. -/
def Delivers (s t : State) (o e : List Byte) : Prop :=
  (t.running = true → ∃ x, History t (e ++ x) ∧ Flushed t o (e ++ x)) ∧
  (t.state = .done → t.out = o ++ e) ∧
  (t.state = .error → t.status ≠ .failed .outputError → t.out = s.out)

theorem Delivers.of_running {s t : State} {o e x : List Byte} (hr : t.running = true)
    (hh : History t (e ++ x)) (hf : Flushed t o (e ++ x)) : Delivers s t o e := by
  refine ⟨fun _ => ⟨x, hh, hf⟩, fun hd => ?_, fun he => ?_⟩
  · rcases running_iff.mp hr with h | h <;> rw [h] at hd <;> cases hd
  · rcases running_iff.mp hr with h | h <;> rw [h] at he <;> cases he

theorem Delivers.of_done {s t : State} {o e : List Byte} (hd : t.state = .done) (ho : t.out = o ++ e) :
    Delivers s t o e := by
  refine ⟨fun hr => ?_, fun _ => ho, fun he => ?_⟩
  · rcases running_iff.mp hr with h | h <;> rw [h] at hd <;> cases hd
  · rw [hd] at he; cases he

theorem Delivers.of_raise {s u : State} {k : ErrorKind} {o e : List Byte}
    (ho : k = .outputError ∨ u.out = s.out) : Delivers s (u.raise k) o e := by
  refine ⟨fun hr => (by cases hr), fun hd => (by cases hd), fun _ hk => ?_⟩
  exact ho.resolve_left fun h => hk (congrArg Status.failed h)

/-- Settles O53: fetching emits nothing, a legal header neither, and each token by its effect. -/
theorem emittedBytesAreDelivered : Obligations.EmittedBytesAreDelivered := by
  intro s t o e h hr hq hh hf hstep
  show Delivers s t o e
  rcases session_step_cases h hr hq with ⟨k, u, hnext, hu⟩ | ⟨lit, dict, u, hnext, _, _, _, _, hu⟩ |
    ⟨f, u, hnext, hlegal, _, _, hu⟩ <;> rw [hnext] at hstep
  · cases hstep
    exact .of_raise (.inr (out_of_pushes hu.2))
  · cases hstep
    have hh' : History u e := hu.history hh
    have hf' : Flushed u o e := hu.flushed hf
    refine .of_running (x := []) rfl ?_ ?_ <;> rw [List.append_nil]
    · exact ⟨hh'.next, hh'.fill, hh'.recent⟩
    · exact hf'
  · rcases Res.toOutcome_eq_next.mp hstep with ht | ⟨k, v, hv, rfl⟩
    · rcases effect_run_history (hu.history hh) (hu.flushed hf) hlegal ht with ⟨x, kh, kf, hs⟩ | ⟨hd, ho⟩
      · exact .of_running (by unfold State.running at *; rwa [hs]) kh kf
      · exact .of_done hd ho
    · exact .of_raise ((effect_run_raised hv).imp_right fun ho => ho.trans (out_of_pushes hu.2))

end Sys2Proof.Machine

/-! SUPPORT. What the decoder's raw groups and codes answer, as an equivalence: the value, and its bits in front
of the bits left. The codes are uniquely readable because none starts with another (R180). -/

namespace Sys2Proof.Machine

/-! ### Raw groups and codes -/

/-- What `takeGroup` answers: the group's value, below `2 ^ n`, in front of the bits left. -/
theorem takeGroup_eq_ok {n v : Nat} {bits rest : Bits} :
    takeGroup n bits = .ok (v, rest) ↔ v < 2 ^ n ∧ bits = natBits n v ++ rest := by
  constructor
  · intro h
    refine ⟨takeGroup_lt h, ?_⟩
    unfold takeGroup at h
    split at h <;> cases h
    have hn : (bits.take n).length = n := List.length_take_of_le (by omega)
    have := natBits_bitsToNat (bits.take n)
    rw [hn] at this
    rw [this, List.take_append_drop]
  · rintro ⟨hv, rfl⟩
    have hlen : ¬ (natBits n v ++ rest).length < n := by simp
    rw [takeGroup, if_neg hlen, List.take_left' (length_natBits n v), List.drop_left' (length_natBits n v),
      bitsToNat_natBits, Nat.mod_eq_of_lt hv]

theorem takeGroup_natBits {n v : Nat} (h : v < 2 ^ n) (rest : Bits) :
    takeGroup n (natBits n v ++ rest) = .ok (v, rest) := takeGroup_eq_ok.mpr ⟨h, rfl⟩

/-- A byte read is the eight bits in front (R66). -/
theorem takeGroup_byte {v : Nat} {bits rest : Bits} (h : takeGroup 8 bits = .ok (v, rest)) :
    bits = byteBits (BitVec.ofNat 8 v) ++ rest := by
  rw [(takeGroup_eq_ok.mp h).2, byteBits, BitVec.toNat_ofNat, natBits_mod]

theorem takeGroup_byteBits (b : Byte) (rest : Bits) :
    takeGroup 8 (byteBits b ++ rest) = .ok (b.toNat, rest) := takeGroup_natBits b.isLt rest

/-- Whether no pattern of at most `n` bits starts with another: down the tree, one that ends stands alone. -/
def prefixFree : Nat → List (Nat × Bits) → Bool
  | _, [] => true
  | _, [_] => true
  | 0, _ => false
  | n + 1, rows => (rows.all fun r => !r.2.isEmpty) &&
      (prefixFree n (rowsAfter false rows) && prefixFree n (rowsAfter true rows))

theorem prefixFree_codes (a : Alphabet) : prefixFree 13 (codeRows (codesOf a) 0) = true := by
  cases a <;> decide +kernel

theorem mem_rowsAfter_of_mem {t : Bool} {k : Nat} {p : Bits} : ∀ {rows : List (Nat × Bits)},
    (k, t :: p) ∈ rows → (k, p) ∈ rowsAfter t rows
  | (j, []) :: rows, h => by
    rcases List.mem_cons.mp h with h | h
    · cases h
    · exact mem_rowsAfter_of_mem (rows := rows) h
  | (j, b :: q) :: rows, h => by
    rw [rowsAfter]
    rcases List.mem_cons.mp h with h | h
    · cases h; rw [if_pos rfl]; exact List.mem_cons_self ..
    · have := mem_rowsAfter_of_mem h
      split
      · exact List.mem_cons_of_mem _ this
      · exact this

/-- When none starts with another, a pattern in front is the row found. -/
theorem findRow_append (rest : Bits) {k : Nat} : ∀ {n : Nat} {rows : List (Nat × Bits)} {p : Bits},
    prefixFree n rows = true → (k, p) ∈ rows → findRow rows (p ++ rest) = some (k, rest) := by
  intro n rows
  induction n, rows using prefixFree.induct with
  | case1 => intro p _ hm; cases hm
  | case2 _ r => intro p _ hm; cases List.mem_singleton.mp hm; simp [findRow]
  | case3 rows h0 h1 => intro p h _; simp [prefixFree] at h
  | case4 n rows h0 h1 ihf iht =>
    intro p h hm
    rw [prefixFree, Bool.and_eq_true, Bool.and_eq_true] at h
    obtain ⟨hne, hf, ht⟩ := h
    match p, hm with
    | [], hm => simpa using List.all_eq_true.mp hne _ hm
    | t :: p, hm =>
      rw [List.cons_append, findRow_cons t _ hne]
      have hp := mem_rowsAfter_of_mem hm
      cases t
      · exact ihf hf hp
      · exact iht ht hp
    all_goals assumption

/-- The row found is in front of the bits left. -/
theorem findRow_eq_some {k : Nat} {bits rest : Bits} : ∀ {rows : List (Nat × Bits)},
    findRow rows bits = some (k, rest) → ∃ p, (k, p) ∈ rows ∧ bits = p ++ rest
  | (j, q) :: rows, h => by
    rw [findRow] at h
    split at h
    · rename_i hq
      cases h
      obtain ⟨r, rfl⟩ := List.isPrefixOf_iff_prefix.mp hq
      exact ⟨q, List.mem_cons_self .., by rw [List.drop_left]⟩
    · obtain ⟨p, hp, e⟩ := findRow_eq_some h
      exact ⟨p, List.mem_cons_of_mem _ hp, e⟩

theorem getElem?_codeRows : ∀ (rows : List (Nat × Nat)) (j i : Nat),
    (codeRows rows j)[i]? = rows[i]?.map fun r => (j + i, codePattern r.1 r.2)
  | [], _, _ => rfl
  | _ :: _, _, 0 => rfl
  | (l, c) :: rows, j, i + 1 => by
    simp only [codeRows, List.getElem?_cons_succ, getElem?_codeRows rows (j + 1) i,
      Nat.add_right_comm j 1 i, Nat.add_assoc]

/-- The rows of an alphabet are its symbols with their stream bits. -/
theorem mem_codeRows {a : Alphabet} {k : Nat} {p : Bits} :
    (k, p) ∈ codeRows (codesOf a) 0 ↔ k < a.size ∧ p = codeBits a k := by
  rw [List.mem_iff_getElem?, ← length_codesOf]
  simp only [getElem?_codeRows, Nat.zero_add]
  constructor
  · rintro ⟨i, h⟩
    obtain ⟨r, hr, e⟩ := Option.map_eq_some_iff.mp h
    cases e
    exact ⟨(List.getElem?_eq_some_iff.mp hr).1, by rw [codeBits, hr]⟩
  · rintro ⟨hk, rfl⟩
    exact ⟨k, by rw [codeBits, List.getElem?_eq_getElem hk]; rfl⟩

/-- What `takeCode` answers: a symbol of the alphabet, whose code is in front of the bits left (R180). -/
theorem takeCode_eq_ok {a : Alphabet} {k : Nat} {bits rest : Bits} :
    takeCode a bits = .ok (k, rest) ↔ k < a.size ∧ bits = codeBits a k ++ rest := by
  have hfind : takeCode a bits = .ok (k, rest) ↔ findRow (codeRows (codesOf a) 0) bits = some (k, rest) := by
    unfold takeCode
    rw [matchCode_eq]
    cases findRow (codeRows (codesOf a) 0) bits with
    | some r => simp
    | none => simp only [reduceCtorEq, iff_false]; split <;> simp
  rw [hfind]
  constructor
  · intro h
    obtain ⟨p, hp, e⟩ := findRow_eq_some h
    obtain ⟨hk, rfl⟩ := mem_codeRows.mp hp
    exact ⟨hk, e⟩
  · rintro ⟨hk, rfl⟩
    exact findRow_append rest (prefixFree_codes a) (mem_codeRows.mpr ⟨hk, rfl⟩)

theorem takeCode_codeBits {a : Alphabet} {k : Nat} (h : k < a.size) (rest : Bits) :
    takeCode a (codeBits a k ++ rest) = .ok (k, rest) := takeCode_eq_ok.mpr ⟨h, rfl⟩

/-! ### Code rows -/

theorem codeInstrs_codeSym (a : Alphabet) :
    ∀ k < a.size, (codeInstrs a)[k]?.bind Instr.codeSym? = some (a, k) := by
  cases a <;> decide +kernel

theorem length_codeInstrs (a : Alphabet) : (codeInstrs a).length = a.size := by cases a <;> decide +kernel

/-- The row listed for a symbol is the row that stands for it (R116). -/
theorem getElem?_codeInstrs {a : Alphabet} {k : Nat} {i : Instr} :
    (codeInstrs a)[k]? = some i ↔ i.codeSym? = some (a, k) := by
  constructor
  · intro h
    have hk : k < a.size := by rw [← length_codeInstrs]; exact (List.getElem?_eq_some_iff.mp h).1
    have := codeInstrs_codeSym a k hk
    rwa [h] at this
  · intro h
    cases i <;> cases h <;> decide +kernel

/-- The encoding of a code row is its symbol's code (R107, R109, R113). -/
theorem encode_code {i : Instr} {a : Alphabet} {k : Nat} (h : i.codeSym? = some (a, k)) (ctx : Ctx) :
    encode ctx i = codeBits a k := by
  cases i <;> cases h <;> rfl

theorem wellFormed_code {i : Instr} {p : Alphabet × Nat} (h : i.codeSym? = some p) :
    i.wellFormed = true := by
  cases i <;> cases h <;> rfl

theorem codeSym_lt {i : Instr} {a : Alphabet} {k : Nat} (h : i.codeSym? = some (a, k)) : k < a.size := by
  rw [← length_codeInstrs]
  exact (List.getElem?_eq_some_iff.mp (getElem?_codeInstrs.mpr h)).1

end Sys2Proof.Machine

/-! SUPPORT. The parts of a header and of a token: what the decoder answers for each, and which bits it took
(R91 to R98, R100). -/

namespace Sys2Proof.Machine

/-! ### Length and distance -/

/-- The bits of a length: its code and extra bits (R96, R100). -/
def lenBits (len : Nat) : Bits :=
  codeBits .len (lenSymbol len) ++ natBits (lenExtra (lenSymbol len)) (len - lenBase (lenSymbol len))

/-- The bits of a distance with `x` extra bits (R97, R100). -/
def distBits (dist x : Nat) : Bits :=
  codeBits .dist ((dist - 1) / 2 ^ x) ++ natBits x ((dist - 1) % 2 ^ x)

theorem encodePair_eq (len dist x : Nat) :
    encodePair len dist x = true :: (lenBits len ++ distBits dist x) := by
  simp [encodePair, lenBits, distBits]

/-- The ranges of R106 cover the lengths 2 to 519. -/
theorem lenSymbol_range : ∀ len < 520, 2 ≤ len → lenSymbol len < Alphabet.len.size ∧
    lenBase (lenSymbol len) ≤ len ∧ len < lenBase (lenSymbol len) + 2 ^ lenExtra (lenSymbol len) := by
  decide +kernel

/-- They do not overlap: a length's symbol is the one it was made with. -/
theorem lenSymbol_lenOf : ∀ s < Alphabet.len.size, ∀ e < 2 ^ lenExtra s,
    lenSymbol (lenOf s e) = s ∧ 2 ≤ lenOf s e ∧ lenOf s e ≤ hw.endLen := by
  decide +kernel

theorem distOf_eq (sd : Nat) {x extra : Nat} (h : extra < 2 ^ x) :
    distOf sd x extra = sd * 2 ^ x + extra + 1 := by
  rw [distOf, ← Nat.shiftLeft_add_eq_or_of_lt h, Nat.shiftLeft_eq]

/-- The length part of `decodePair`. -/
def decodeLength (bits : Bits) : Except Reject (Nat × Bits) := do
  let (s, bits) ← takeCode .len bits
  let (e, bits) ← takeGroup (lenExtra s) bits
  .ok (lenOf s e, bits)

/-- The distance part of `decodePair`. -/
def decodeDistance (x : Nat) (bits : Bits) : Except Reject (Nat × Bits) := do
  let (sd, bits) ← takeCode .dist bits
  let (extra, bits) ← takeGroup x bits
  .ok (distOf sd x extra, bits)

/-- The back-reference of a length and a distance (R93). -/
def backRef (len : Nat) (dist : BitVec 13) : Instr :=
  if len = 2 then .match2 dist else .matchN (BitVec.ofNat 10 len) dist

theorem decodePair_eq (dict : Byte) (bits : Bits) : decodePair dict bits = (do
    let (len, bits) ← decodeLength bits
    if len = hw.endLen then .ok (.endMark, bits)
    else
      let (dist, bits) ← decodeDistance (extraCount len dict) bits
      .ok (backRef len (BitVec.ofNat 13 dist), bits)) := by
  simp only [decodePair, decodeLength, decodeDistance, backRef, bind_assoc]
  refine bind_congr fun _ => bind_congr fun _ => ite_congr rfl (fun _ => rfl) fun _ => ?_
  exact bind_congr fun _ => bind_congr fun _ => (apply_ite (fun i => Except.ok (i, _)) _ _ _).symm

/-- What `decodeLength` answers: a length of 2 to 519, whose bits are in front of the bits left. -/
theorem decodeLength_eq_ok {len : Nat} {bits rest : Bits} : decodeLength bits = .ok (len, rest) ↔
    (2 ≤ len ∧ len ≤ hw.endLen) ∧ bits = lenBits len ++ rest := by
  constructor
  · intro h
    obtain ⟨⟨s, bits1⟩, hcode, h⟩ := except_bind_ok h
    obtain ⟨⟨e, bits2⟩, hgroup, h⟩ := except_bind_ok h
    cases h
    obtain ⟨hs, rfl⟩ := takeCode_eq_ok.mp hcode
    obtain ⟨he, rfl⟩ := takeGroup_eq_ok.mp hgroup
    obtain ⟨hsym, hrange⟩ := lenSymbol_lenOf s hs e he
    refine ⟨hrange, ?_⟩
    rw [lenBits, hsym, lenOf, Nat.add_sub_cancel_left, List.append_assoc]
  · rintro ⟨⟨h2, hend⟩, rfl⟩
    obtain ⟨hs, hlo, hhi⟩ := lenSymbol_range len (Nat.lt_succ_of_le hend) h2
    rw [lenBits, List.append_assoc, decodeLength, takeCode_codeBits hs]
    show (takeGroup _ _ >>= _) = _
    rw [takeGroup_natBits (Nat.sub_lt_left_of_lt_add hlo hhi)]
    exact congrArg (fun n => Except.ok (n, rest)) (Nat.add_sub_of_le hlo)

/-- What `decodeDistance` answers: a distance that fits a symbol and `x` extra bits, whose bits are in
front of the bits left. -/
theorem decodeDistance_eq_ok {x dist : Nat} {bits rest : Bits} : decodeDistance x bits = .ok (dist, rest) ↔
    (1 ≤ dist ∧ dist ≤ hw.distSyms * 2 ^ x) ∧ bits = distBits dist x ++ rest := by
  constructor
  · intro h
    obtain ⟨⟨sd, bits1⟩, hcode, h⟩ := except_bind_ok h
    obtain ⟨⟨extra, bits2⟩, hgroup, h⟩ := except_bind_ok h
    cases h
    obtain ⟨hsd, rfl⟩ := takeCode_eq_ok.mp hcode
    obtain ⟨hextra, rfl⟩ := takeGroup_eq_ok.mp hgroup
    have hpos : 0 < 2 ^ x := Nat.two_pow_pos x
    rw [distOf_eq sd hextra]
    refine ⟨⟨Nat.le_add_left .., ?_⟩, ?_⟩
    · calc sd * 2 ^ x + extra + 1 ≤ sd * 2 ^ x + 2 ^ x := Nat.add_le_add_left hextra _
        _ = (sd + 1) * 2 ^ x := (Nat.succ_mul ..).symm
        _ ≤ hw.distSyms * 2 ^ x := Nat.mul_le_mul_right _ hsd
    · have hdiv : (sd * 2 ^ x + extra) / 2 ^ x = sd := by
        rw [Nat.mul_comm, Nat.mul_add_div hpos, Nat.div_eq_of_lt hextra, Nat.add_zero]
      have hmod : (sd * 2 ^ x + extra) % 2 ^ x = extra := Nat.mul_add_mod_of_lt hextra
      rw [distBits, Nat.add_sub_cancel, hdiv, hmod, List.append_assoc]
  · rintro ⟨⟨h1, hmax⟩, rfl⟩
    have hpos : 0 < 2 ^ x := Nat.two_pow_pos x
    have hsd : (dist - 1) / 2 ^ x < Alphabet.dist.size :=
      Nat.div_lt_of_lt_mul (by rw [Nat.mul_comm]; exact Nat.lt_of_lt_of_le (by omega) hmax)
    have hmod := Nat.mod_lt (dist - 1) hpos
    rw [distBits, List.append_assoc, decodeDistance, takeCode_codeBits hsd]
    show (takeGroup _ _ >>= _) = _
    rw [takeGroup_natBits hmod]
    show Except.ok (distOf _ _ _, rest) = _
    rw [distOf_eq _ hmod, Nat.div_add_mod', Nat.sub_add_cancel h1]

/-- The lengths and distances a back-reference can have under the header's `dict` (R93, R97, R100). -/
structure BackRefOk (dict : Byte) (len : Nat) (dist : BitVec 13) : Prop where
  two_le : 2 ≤ len
  lt_endLen : len < hw.endLen
  one_le : 1 ≤ dist.toNat
  dist_le : dist.toNat ≤ hw.distSyms * 2 ^ extraCount len dict

/-- Distances of a legal header fit in the register. -/
theorem distance_le {dict : Byte} (hd : legalDict dict = true) {len dist : Nat}
    (h : dist ≤ hw.distSyms * 2 ^ extraCount len dict) : dist ≤ hw.winSize :=
  calc dist ≤ hw.distSyms * 2 ^ extraCount len dict := h
    _ ≤ hw.distSyms * 2 ^ 6 := Nat.mul_le_mul_left _ (Nat.pow_le_pow_right (by decide) (extraCount_le hd))
    _ = hw.winSize := rfl

theorem toNat_distance {dict : Byte} (hd : legalDict dict = true) {len dist : Nat}
    (h : dist ≤ hw.distSyms * 2 ^ extraCount len dict) : (BitVec.ofNat 13 dist).toNat = dist := by
  have := distance_le hd h
  rw [hw_winSize] at this
  rw [BitVec.toNat_ofNat, Nat.mod_eq_of_lt (by omega)]

/-- What the decoder answers after the control bit of a back-reference: the end marker, or a length and a
distance, their bits in front of the bits left (R96 to R98, R100). -/
theorem decodePair_eq_ok {dict : Byte} (hd : legalDict dict = true) {bits rest : Bits} {i : Instr} :
    decodePair dict bits = .ok (i, rest) ↔
      (i = .endMark ∧ bits = lenBits hw.endLen ++ rest) ∨
      ∃ len dist, BackRefOk dict len dist ∧ i = backRef len dist ∧
        bits = lenBits len ++ distBits dist.toNat (extraCount len dict) ++ rest := by
  rw [decodePair_eq]
  constructor
  · intro h
    obtain ⟨⟨len, bits1⟩, hlen, h⟩ := except_bind_ok h
    obtain ⟨⟨h2, hend⟩, hbits⟩ := decodeLength_eq_ok.mp hlen
    simp only at h
    split at h
    · rename_i he
      cases h
      exact .inl ⟨rfl, by rw [hbits, he]⟩
    · rename_i he
      obtain ⟨⟨dist, bits2⟩, hdist, h⟩ := except_bind_ok h
      cases h
      obtain ⟨⟨h1, hmax⟩, rfl⟩ := decodeDistance_eq_ok.mp hdist
      have hfit := toNat_distance hd hmax
      refine .inr ⟨len, BitVec.ofNat 13 dist, ⟨h2, Nat.lt_of_le_of_ne hend he, ?_, ?_⟩, rfl, ?_⟩
      · rwa [hfit]
      · rwa [hfit]
      · rw [hbits, hfit, List.append_assoc]
  · rintro (⟨rfl, rfl⟩ | ⟨len, dist, ⟨h2, hend, h1, hmax⟩, rfl, rfl⟩)
    · rw [decodeLength_eq_ok.mpr ⟨⟨by decide, Nat.le_refl _⟩, rfl⟩]
      rfl
    · rw [decodeLength_eq_ok.mpr ⟨⟨h2, Nat.le_of_lt hend⟩, List.append_assoc ..⟩]
      show (if len = hw.endLen then _ else (decodeDistance _ _ >>= _)) = _
      rw [if_neg (Nat.ne_of_lt hend), decodeDistance_eq_ok.mpr ⟨⟨h1, hmax⟩, rfl⟩]
      show Except.ok (backRef len (BitVec.ofNat 13 dist.toNat), rest) = _
      rw [BitVec.ofNat_toNat, BitVec.setWidth_eq]

/-! ### Header and literals -/

/-- What the decoder answers as a header: two legal bytes in front of the bits left (R91, R103). -/
theorem decodeHeader_eq_ok {bits rest : Bits} {i : Instr} : decodeHeader bits = .ok (i, rest) ↔
    ∃ lit dict, (legalLit lit = true ∧ legalDict dict = true) ∧ i = .hdr lit dict ∧
      bits = byteBits lit ++ byteBits dict ++ rest := by
  constructor
  · intro h
    obtain ⟨lit, dict, rfl, hlegal⟩ := decode_header_legal h
    refine ⟨lit, dict, hlegal, rfl, ?_⟩
    obtain ⟨⟨l, bits1⟩, hlit, h⟩ := except_bind_ok h
    simp only at h
    split at h
    · cases h
    · obtain ⟨⟨d, bits2⟩, hdict, h⟩ := except_bind_ok h
      simp only at h
      split at h <;> cases h
      rw [takeGroup_byte hlit, takeGroup_byte hdict, List.append_assoc]
  · rintro ⟨lit, dict, ⟨hl, hd⟩, rfl, rfl⟩
    simp [decodeHeader, takeGroup_byteBits, bind, Except.bind, hl, hd]

/-- The literal of a byte under the header's `lit` (R94, R95). -/
def literal (lit b : Byte) : Instr := if lit = 0 then .litRaw b else .litHuf b

/-- The bits of a literal after its control bit (R94, R95). -/
def literalBits (lit b : Byte) : Bits := if lit = 0 then byteBits b else codeBits .lit b.toNat

/-- What the decoder answers after the control bit of a literal: a byte, its bits in front of the bits
left. -/
theorem decodeLiteral_eq_ok {lit : Byte} {bits rest : Bits} {i : Instr} :
    decodeLiteral lit bits = .ok (i, rest) ↔
      ∃ b, i = literal lit b ∧ bits = literalBits lit b ++ rest := by
  unfold decodeLiteral literal literalBits
  by_cases hl : lit = 0
  · simp only [if_pos hl]
    constructor
    · intro h
      obtain ⟨⟨b, _⟩, hb, h⟩ := except_bind_ok h
      cases h
      exact ⟨_, rfl, takeGroup_byte hb⟩
    · rintro ⟨b, rfl, rfl⟩
      simp [takeGroup_byteBits, bind, Except.bind]
  · simp only [if_neg hl]
    constructor
    · intro h
      obtain ⟨⟨b, _⟩, hb, h⟩ := except_bind_ok h
      cases h
      obtain ⟨hlt, hbits⟩ := takeCode_eq_ok.mp hb
      have hfit : b % 2 ^ 8 = b := Nat.mod_eq_of_lt hlt
      exact ⟨_, rfl, by rw [BitVec.toNat_ofNat, hfit, hbits]⟩
    · rintro ⟨b, rfl, rfl⟩
      have hcode := takeCode_codeBits (a := .lit) (k := b.toNat) b.isLt rest
      simp [hcode, bind, Except.bind]

end Sys2Proof.Machine

/-! SUPPORT. The decoder and the encoder agree: in a legal context an instruction decodes exactly if the context
holds it and its encoding is in front. The encoding's obligations follow. -/

namespace Sys2Proof.Machine

/-! ### What a context holds -/

theorem holds_header {i : Instr} : Ctx.header.holds i = true ↔
    ∃ lit dict, (legalLit lit = true ∧ legalDict dict = true) ∧ i = .hdr lit dict := by
  constructor
  · intro h
    cases i with
    | hdr lit dict => exact ⟨lit, dict, Bool.and_eq_true_iff.mp h, rfl⟩
    | _ => cases h
  · rintro ⟨lit, dict, hlegal, rfl⟩
    exact Bool.and_eq_true_iff.mpr hlegal

theorem holds_code {a : Alphabet} {i : Instr} :
    (Ctx.code a).holds i = true ↔ ∃ k, i.codeSym? = some (a, k) := by
  show (match i.codeSym? with | some (b, _) => a == b | none => false) = true ↔ _
  cases i.codeSym? with
  | none => simp
  | some p =>
    obtain ⟨b, k⟩ := p
    simp only [beq_iff_eq, Option.some.injEq, Prod.mk.injEq, exists_and_left, exists_eq', and_true]
    exact eq_comm

theorem holds_match2 {lit dict : Byte} {dist : BitVec 13} :
    (Ctx.token lit dict).holds (.match2 dist) = true ↔ BackRefOk dict 2 dist := by
  show (decide (1 ≤ dist.toNat) && decide (dist.toNat ≤ hw.distSyms * 2 ^ 2)) = true ↔ _
  simp only [Bool.and_eq_true, decide_eq_true_eq]
  exact ⟨fun ⟨h1, hmax⟩ => ⟨Nat.le_refl 2, by decide, h1, hmax⟩,
    fun ⟨_, _, h1, hmax⟩ => ⟨h1, hmax⟩⟩

theorem holds_matchN {lit dict : Byte} (hd : legalDict dict = true) {len : BitVec 10} {dist : BitVec 13} :
    (Ctx.token lit dict).holds (.matchN len dist) = true ↔
      len.toNat ≠ 2 ∧ BackRefOk dict len.toNat dist := by
  show ((decide (3 ≤ len.toNat) && decide (len.toNat < hw.endLen) && decide (1 ≤ dist.toNat) &&
    decide (dist.toNat ≤ hw.winSize)) && decide (dist.toNat ≤ hw.distSyms * 2 ^ dict.toNat)) = true ↔ _
  simp only [Bool.and_eq_true, decide_eq_true_eq]
  constructor
  · rintro ⟨⟨⟨⟨h3, hend⟩, h1⟩, _⟩, hmax⟩
    have hne : len.toNat ≠ 2 := by omega
    refine ⟨hne, by omega, hend, h1, ?_⟩
    rwa [extraCount, if_neg hne]
  · rintro ⟨hne, h2, hend, h1, hmax⟩
    have hwin := distance_le hd hmax
    rw [extraCount, if_neg hne] at hmax
    exact ⟨⟨⟨⟨by omega, hend⟩, h1⟩, hwin⟩, hmax⟩

/-- Lengths of back-references fit in the register. -/
theorem toNat_length {len : Nat} (h : len < hw.endLen) : (BitVec.ofNat 10 len).toNat = len := by
  rw [hw_endLen] at h
  rw [BitVec.toNat_ofNat, Nat.mod_eq_of_lt (by omega)]

/-- The tokens under a legal header: the literal of a byte, the end marker, and the back-references (R93). -/
theorem holds_token {lit dict : Byte} (hd : legalDict dict = true) {i : Instr} :
    (Ctx.token lit dict).holds i = true ↔
      (∃ b, i = literal lit b) ∨ i = .endMark ∨
      ∃ len dist, BackRefOk dict len dist ∧ i = backRef len dist := by
  constructor
  · intro h
    cases i with
    | litRaw b => exact .inl ⟨b, (if_pos (eq_of_beq h)).symm⟩
    | litHuf b => exact .inl ⟨b, (if_neg (bne_iff_ne.mp h)).symm⟩
    | endMark => exact .inr (.inl rfl)
    | match2 dist => exact .inr (.inr ⟨2, dist, holds_match2.mp h, rfl⟩)
    | matchN len dist =>
      obtain ⟨hne, hok⟩ := (holds_matchN hd).mp h
      refine .inr (.inr ⟨len.toNat, dist, hok, ?_⟩)
      rw [backRef, if_neg hne, BitVec.ofNat_toNat, BitVec.setWidth_eq]
    | _ => cases h
  · rintro (⟨b, rfl⟩ | rfl | ⟨len, dist, hok, rfl⟩)
    · unfold literal
      split
      · exact beq_iff_eq.mpr ‹_›
      · exact bne_iff_ne.mpr ‹_›
    · rfl
    · unfold backRef
      split
      · rename_i h2
        exact holds_match2.mpr (h2 ▸ hok)
      · rename_i hne
        rw [holds_matchN hd, toNat_length hok.lt_endLen]
        exact ⟨hne, hok⟩

theorem holds_wellFormed {ctx : Ctx} {i : Instr} (h : ctx.holds i = true) : i.wellFormed = true := by
  cases ctx with
  | header =>
    obtain ⟨lit, dict, hlegal, rfl⟩ := holds_header.mp h
    exact Bool.and_eq_true_iff.mpr hlegal
  | token lit dict =>
    cases i with
    | match2 dist => exact h
    | matchN len dist => exact (Bool.and_eq_true_iff.mp h).1
    | litRaw b => rfl
    | litHuf b => rfl
    | endMark => rfl
    | _ => cases h
  | code a =>
    obtain ⟨k, hk⟩ := holds_code.mp h
    exact wellFormed_code hk

/-! ### Encodings -/

theorem encode_literal (ctx : Ctx) (lit b : Byte) :
    encode ctx (literal lit b) = false :: literalBits lit b := by
  unfold literal literalBits
  split <;> rfl

theorem encode_backRef (lit : Byte) {dict : Byte} {len : Nat} (dist : BitVec 13) (h : len < hw.endLen) :
    encode (.token lit dict) (backRef len dist) =
      true :: (lenBits len ++ distBits dist.toNat (extraCount len dict)) := by
  unfold backRef extraCount
  split
  · rename_i h2
    rw [h2]
    exact encodePair_eq ..
  · rw [← encodePair_eq]
    show encodePair (BitVec.ofNat 10 len).toNat _ _ = _
    rw [toNat_length h]

/-- A token decodes to an instruction exactly if the stream can hold it there and its encoding is in
front of the bits left. -/
theorem decode_token_eq_ok {lit dict : Byte} (hd : legalDict dict = true) {bits rest : Bits} {i : Instr} :
    decode (.token lit dict) bits = .ok (i, rest) ↔
      (Ctx.token lit dict).holds i = true ∧ bits = encode (.token lit dict) i ++ rest := by
  rw [holds_token hd]
  constructor
  · intro h
    match bits, h with
    | false :: bits, h =>
      obtain ⟨b, rfl, rfl⟩ := decodeLiteral_eq_ok.mp h
      exact ⟨.inl ⟨b, rfl⟩, by rw [encode_literal]; rfl⟩
    | true :: bits, h =>
      rcases (decodePair_eq_ok hd).mp h with ⟨rfl, rfl⟩ | ⟨len, dist, hok, rfl, rfl⟩
      · exact ⟨.inr (.inl rfl), rfl⟩
      · exact ⟨.inr (.inr ⟨len, dist, hok, rfl⟩), by rw [encode_backRef lit dist hok.lt_endLen]; rfl⟩
  · rintro ⟨⟨b, rfl⟩ | rfl | ⟨len, dist, hok, rfl⟩, rfl⟩
    · rw [encode_literal]
      exact decodeLiteral_eq_ok.mpr ⟨b, rfl, rfl⟩
    · exact (decodePair_eq_ok hd).mpr (.inl ⟨rfl, rfl⟩)
    · rw [encode_backRef lit dist hok.lt_endLen]
      exact (decodePair_eq_ok hd).mpr (.inr ⟨len, dist, hok, rfl, rfl⟩)

/-- A code decodes to a row exactly if the row is one of the alphabet's and its code is in front. -/
theorem decode_code_eq_ok {a : Alphabet} {bits rest : Bits} {i : Instr} :
    decode (.code a) bits = .ok (i, rest) ↔
      (Ctx.code a).holds i = true ∧ bits = encode (.code a) i ++ rest := by
  rw [holds_code]
  constructor
  · intro h
    obtain ⟨⟨k, bits1⟩, hcode, h⟩ := except_bind_ok h
    simp only at h
    split at h <;> cases h
    rename_i hrow
    have hsym := getElem?_codeInstrs.mp hrow
    exact ⟨⟨k, hsym⟩, by rw [encode_code hsym, (takeCode_eq_ok.mp hcode).2]⟩
  · rintro ⟨⟨k, hsym⟩, rfl⟩
    have hcode := takeCode_codeBits (codeSym_lt hsym) rest
    have hrow := getElem?_codeInstrs.mpr hsym
    simp [encode_code hsym, decode, hcode, hrow, bind, Except.bind]

/-- In a legal context the decoder and the encoder agree: what decodes is what the context holds, and the
bits taken are its encoding. -/
theorem decode_eq_ok {ctx : Ctx} (hl : ctx.legal = true) {bits rest : Bits} {i : Instr} :
    decode ctx bits = .ok (i, rest) ↔ ctx.holds i = true ∧ bits = encode ctx i ++ rest := by
  cases ctx with
  | header =>
    rw [holds_header]
    constructor
    · intro h
      obtain ⟨lit, dict, hlegal, rfl, hbits⟩ := decodeHeader_eq_ok.mp h
      exact ⟨⟨lit, dict, hlegal, rfl⟩, hbits⟩
    · rintro ⟨⟨lit, dict, hlegal, rfl⟩, hbits⟩
      exact decodeHeader_eq_ok.mpr ⟨lit, dict, hlegal, rfl, hbits⟩
  | token lit dict => exact decode_token_eq_ok (Bool.and_eq_true_iff.mp hl).2
  | code a => exact decode_code_eq_ok

/-! ### The obligations -/

/-- Settles O11: the encoding in front is read as the instruction (`decode_eq_ok`). -/
theorem decodeEncode : Obligations.DecodeEncode :=
  fun _ _ _ hl hh => (decode_eq_ok hl).mpr ⟨hh, rfl⟩

/-- Settles O12: the same equivalence from the other side. -/
theorem decodeSound : Obligations.DecodeSound := by
  intro ctx bits rest i hl h
  obtain ⟨hholds, hbits⟩ := (decode_eq_ok hl).mp h
  exact ⟨hholds, holds_wellFormed hholds, hbits.symm⟩

/-- Settles O10: the decoder evaluated on each word. -/
theorem knownWordsDecode : Obligations.KnownWordsDecode :=
  ⟨rfl, rfl, rfl, rfl, rfl, rfl, rfl, rfl, rfl⟩

/-- The code table of an alphabet has the lengths its compact list describes (R105, R108, R111). -/
theorem expandLengths_fixed (a : Alphabet) : expandLengths (fixedList a) a.size = (codesOf a).map Prod.fst := by
  cases a <;> decide +kernel

/-- Its code values are the canonical ones of its lengths (R118). -/
theorem codesOf_canonical (a : Alphabet) : codesOf a = (List.range a.size).map fun k =>
    (((codesOf a).map Prod.fst).getD k 0, canonicalCode ((codesOf a).map Prod.fst) k) := by
  cases a <;> decide +kernel

/-- Settles O13: the lengths are the lists', and the values are canonical for those lengths. -/
theorem codesAreCanonical : Obligations.CodesAreCanonical := by
  have canonical (a : Alphabet) : codesOf a = (List.range a.size).map fun k =>
      ((expandLengths (fixedList a) a.size).getD k 0,
        canonicalCode (expandLengths (fixedList a) a.size) k) := by
    rw [expandLengths_fixed]; exact codesOf_canonical a
  intro p hp
  simp only [List.mem_cons, List.not_mem_nil, or_false] at hp
  rcases hp with rfl | rfl | rfl
  · exact canonical .lit
  · exact canonical .len
  · exact canonical .dist

/-- Settles O41: the row's arm of `exec` is the refusal. -/
theorem readmeIsRefused : Obligations.ReadmeIsRefused := by
  intro s
  exact (rfl : execReadme s = .refused .notAnInstruction)

end Sys2Proof.Machine

/-! SUPPORT. The operations of the bit reader run on their own: `FETCHBYTE` and `TAKEBITS`. The theorems that settle
`FetchByte` and `TakeBits` stand in `BitReader`, since the operations have their names. -/

namespace Sys2Proof.Machine

/-! ### fetchByte -/

theorem fetchByte_queued {s : State} {b : Byte} {q : List Byte} (hq : s.inq = b :: q) :
    fetchByte s = .ok b { s with inq := q, consumed := s.consumed + 1 } := by
  simp only [fetchByte, hq]

theorem fetchByte_pulled {s : State} {b : Byte} {c : List Byte} {cs : List (List Byte)} (hq : s.inq = [])
    (hs : s.src = (b :: c) :: cs) : fetchByte s = .ok b
      { s with inq := c, src := cs, bus := s.bus ++ [.pull (b :: c)], consumed := s.consumed + 1 } := by
  simp only [fetchByte, hq, pull, hs]

/-- Where the next byte of `IN` lies: in `inq`, in the next chunk, or nowhere (R132). -/
theorem nextByte_cases (s : State) : (∃ b q, s.inq = b :: q) ∨
    (∃ b c cs, s.inq = [] ∧ s.src = (b :: c) :: cs) ∨ s.bytesAhead = [] := by
  unfold State.bytesAhead
  match s.inq, s.src with
  | b :: q, _ => exact .inl ⟨b, q, rfl⟩
  | [], (b :: c) :: cs => exact .inr (.inl ⟨b, c, cs, rfl, rfl⟩)
  | [], [] => exact .inr (.inr rfl)
  | [], [] :: _ => exact .inr (.inr rfl)

theorem exec_fetchByte_ok {s t : State} {b : Byte} (h : fetchByte s = .ok b t) :
    exec .fetchByte s = .next { t with result := b.setWidth 16 } := by
  show ((fetchByte s).bind _).toOutcome = _
  rw [h]; rfl

theorem exec_fetchByte_raised {s t : State} {k : ErrorKind} (h : fetchByte s = .raised k t) :
    exec .fetchByte s = .next (t.raise k) := by
  show ((fetchByte s).bind _).toOutcome = _
  rw [h]; rfl

/-- An operation that kept the tables and raises leaves the error state of its kind (R256). -/
theorem failsWith_raise {s u : State} (k : ErrorKind) (h : KeepsTables s u) : FailsWith k s (u.raise k) :=
  ⟨rfl, rfl, h.trans (keepsTables_raise u k)⟩

/-- Settles O17, by where the next byte lies: in `inq`, in the next chunk, or nowhere. -/
theorem BitReader.fetchByte : Obligations.FetchByte := by
  intro s
  rcases nextByte_cases s with ⟨b, q, hq⟩ | ⟨b, c, cs, hq, hs⟩ | hend
  · have e := exec_fetchByte_ok (fetchByte_queued hq)
    rw [hq]
    refine ⟨fun _ _ h => ?_, fun h => (by cases h)⟩
    cases h
    exact ⟨_, e, rfl, rfl, fun _ => ⟨rfl, rfl⟩, fun h => (by cases h), rfl⟩
  · have e := exec_fetchByte_ok (fetchByte_pulled hq hs)
    rw [hq, hs]
    refine ⟨fun _ _ h => ?_, fun h => (by cases h)⟩
    cases h
    exact ⟨_, e, rfl, rfl, fun h => absurd rfl h, fun _ => rfl, rfl⟩
  · have e := exec_fetchByte_raised (fetchByte_end hend)
    rw [show s.inq ++ upcoming s.src = [] from hend]
    refine ⟨fun _ _ h => (by cases h), fun _ => ⟨_, e, failsWith_raise _ ?_, rfl⟩⟩
    exact ⟨fun a => by cases a <;> rfl, rfl⟩

/-! ### takeBits -/

theorem exec_takeBits_ok {n : BitVec 5} {s t : State} {v : Nat} (h : takeBits n.toNat s = .ok v t) :
    exec (.takeBits n) s = .next { t with result := BitVec.ofNat 16 v } := by
  show ((takeBits n.toNat s).bind _).toOutcome = _
  rw [h]; rfl

/-- `TAKEBITS` with too few bits ahead ends the session (R134). -/
theorem exec_takeBits_end {n : BitVec 5} {s : State} (hr : ReaderOk s) (hn : n.toNat ≤ 16)
    (hlen : s.bits.length < n.toNat) :
    ∃ t, exec (.takeBits n) s = .next t ∧ FailsWith .endOfInput s t ∧ t.pushes = s.pushes := by
  obtain ⟨u, hu, hf, hp⟩ := takeBits_end hr hn hlen
  refine ⟨u.raise .endOfInput, ?_, failsWith_raise _ hf.toFetch.keepsTables, hp⟩
  show ((takeBits n.toNat s).bind _).toOutcome = _
  rw [hu]; rfl

/-- A group of at most 16 bits fits in `result` (R130). -/
theorem toNat_group {n : Nat} (hn : n ≤ 16) (bits : Bits) :
    (BitVec.ofNat 16 (bitsToNat (bits.take n))).toNat = bitsToNat (bits.take n) := by
  rw [BitVec.toNat_ofNat, Nat.mod_eq_of_lt]
  calc bitsToNat (bits.take n) < 2 ^ (bits.take n).length := bitsToNat_lt _
    _ ≤ 2 ^ 16 := Nat.pow_le_pow_right (by decide) (Nat.le_trans (List.length_take_le ..) hn)

/-- How many bytes are loaded follows from the stream position, since fewer than 8 bits stay buffered
(R24, R131). -/
theorem consumed_of_spos {s t : State} {n : Nat} (hs : ReaderOk s) (ht : ReaderOk t)
    (h : t.spos = s.spos + n) : t.consumed = s.consumed + (n - s.bitcnt.toNat + 7) / 8 := by
  have hs7 := hs.1
  have ht7 := ht.1
  unfold State.spos at h
  omega

/-- Settles O14: `takeBits_ok` and `takeBits_end`, with the response in `result`. -/
theorem BitReader.takeBits : Obligations.TakeBits := by
  intro s n hn hr
  refine ⟨fun hlen => ?_, exec_takeBits_end hr hn⟩
  obtain ⟨t, ht, hb, htr, hf, hp, hpos⟩ := takeBits_ok hr hn hlen
  refine ⟨_, exec_takeBits_ok ht, toNat_group hn _, hb, hpos, htr, consumed_of_spos hr htr hpos, hp, ?_⟩
  unfold SameButReader at hf ⊢
  rw [hf]

/-- Taking no bits loads nothing and shifts nothing (R133). -/
theorem takeBits_zero (s : State) : takeBits 0 s = .ok 0 s := by
  simp [takeBits, refill]

/-- Settles O15: the response is the 0 that `takeBits_zero` answers. -/
theorem takeBitsZero : Obligations.TakeBitsZero := fun s => exec_takeBits_ok (takeBits_zero s)

end Sys2Proof.Machine

/-! SUPPORT. Taking bits in two requests or in one (R137): the same bytes are loaded, and the same bits stay
buffered. -/

namespace Sys2Proof.Machine

/-! ### How a run of loads leaves the input -/

/-- `s` and `t` differ in the bit buffer and the response only, not in the input in front of it. -/
def SameButBuffer (s t : State) : Prop :=
  t = { s with bitbuf := t.bitbuf, bitcnt := t.bitcnt, result := t.result }

theorem SameButBuffer.refl (s : State) : SameButBuffer s s := rfl

theorem SameButBuffer.trans {s t u : State} (h : SameButBuffer s t) (h' : SameButBuffer t u) :
    SameButBuffer s u := by
  unfold SameButBuffer at *; rw [h', h]

theorem SameButBuffer.symm {s t : State} (h : SameButBuffer s t) : SameButBuffer t s := by
  unfold SameButBuffer at *; rw [h]

/-- The state one load of a byte leaves; where there is no byte, as it was. -/
def State.loaded (s : State) : State :=
  match fetchByte s with
  | .ok _ t => t
  | _ => s

theorem loaded_of_fetchByte {s t : State} {b : Byte} (h : fetchByte s = .ok b t) : s.loaded = t := by
  rw [State.loaded, h]

theorem loaded_of_end {s : State} (h : s.bytesAhead = []) : s.loaded = s := by
  rw [State.loaded, fetchByte_end h]

/-- A load does not look at the bit buffer. -/
theorem SameButBuffer.loaded {s t : State} (h : SameButBuffer s t) : SameButBuffer s.loaded t.loaded := by
  obtain ⟨buf, cnt, res, rfl⟩ : ∃ buf cnt res, t = { s with bitbuf := buf, bitcnt := cnt, result := res } :=
    ⟨_, _, _, h⟩
  rcases nextByte_cases s with ⟨b, q, hq⟩ | ⟨b, c, cs, hq, hs⟩ | hend
  · rw [loaded_of_fetchByte (fetchByte_queued hq), loaded_of_fetchByte (fetchByte_queued (by exact hq))]
    rfl
  · rw [loaded_of_fetchByte (fetchByte_pulled hq hs),
      loaded_of_fetchByte (fetchByte_pulled (by exact hq) (by exact hs))]
    rfl
  · rw [loaded_of_end hend, loaded_of_end (by exact hend)]
    rfl

theorem SameButBuffer.loaded_iterate {s t : State} (h : SameButBuffer s t) (k : Nat) :
    SameButBuffer (State.loaded^[k] s) (State.loaded^[k] t) := by
  induction k with
  | zero => exact h
  | succ k ih => rw [Function.iterate_succ_apply', Function.iterate_succ_apply']; exact ih.loaded

/-- `t` came from `s` by loading the bytes consumed since, and by work on the bit buffer. -/
def LoadedFrom (s t : State) : Prop :=
  s.consumed ≤ t.consumed ∧ SameButBuffer (State.loaded^[t.consumed - s.consumed] s) t

theorem LoadedFrom.of_buffer {s t : State} (h : SameButBuffer s t) : LoadedFrom s t := by
  have hc : t.consumed = s.consumed := by rw [h]
  refine ⟨Nat.le_of_eq hc.symm, ?_⟩
  rw [hc, Nat.sub_self]
  exact h

theorem LoadedFrom.of_fetchByte {s t : State} {b : Byte} (h : fetchByte s = .ok b t) : LoadedFrom s t := by
  have hc : t.consumed = s.consumed + 1 := by
    cases hb : s.bytesAhead with
    | nil => rw [fetchByte_end hb] at h; cases h
    | cons c rest =>
      obtain ⟨u, hu, _, hf, _⟩ := fetchByte_ok hb
      rw [hu] at h
      cases h
      rw [hf]
  refine ⟨by omega, ?_⟩
  rw [hc, Nat.add_sub_cancel_left]
  exact (loaded_of_fetchByte h).symm ▸ .refl t

theorem LoadedFrom.trans {s t u : State} (h : LoadedFrom s t) (h' : LoadedFrom t u) : LoadedFrom s u := by
  obtain ⟨hc, hl⟩ := h
  obtain ⟨hc', hl'⟩ := h'
  refine ⟨Nat.le_trans hc hc', ?_⟩
  rw [show u.consumed - s.consumed = (u.consumed - t.consumed) + (t.consumed - s.consumed) by omega,
    Function.iterate_add_apply]
  exact (hl.loaded_iterate _).trans hl'

/-- The bytes consumed decide what the loads leave. -/
theorem LoadedFrom.unique {s t u : State} (h : LoadedFrom s t) (h' : LoadedFrom s u)
    (hc : u.consumed = t.consumed) : SameButBuffer t u :=
  h.2.symm.trans (hc ▸ h'.2)

theorem refill_loadedFrom : ∀ (fuel n : Nat) {val v : BitVec 23} {s t : State},
    refill fuel n val s = .ok v t → LoadedFrom s t
  | 0, _, _, _, s, t, h => by cases h; exact .of_buffer (.refl s)
  | fuel + 1, n, val, v, s, t, h => by
    unfold refill at h
    split at h
    · obtain ⟨b, u, hu, h⟩ := Res.bind_eq_ok.mp h
      have hcnt : SameButBuffer u { u with bitcnt := u.bitcnt + 8 } := rfl
      exact (LoadedFrom.of_fetchByte hu).trans ((LoadedFrom.of_buffer hcnt).trans (refill_loadedFrom fuel n h))
    · cases h; exact .of_buffer (.refl s)

theorem takeBits_loadedFrom {n v : Nat} {s t : State} (h : takeBits n s = .ok v t) : LoadedFrom s t := by
  unfold takeBits at h
  split at h
  · cases h
  · obtain ⟨val, u, hu, h⟩ := Res.bind_eq_ok.mp h
    cases h
    exact (refill_loadedFrom 2 n hu).trans (.of_buffer rfl)

/-! ### The bit buffer -/

/-- The stream ahead and the position decide the bit buffer and the bytes consumed, since fewer than 8 bits
stay buffered (R24, R136). -/
theorem buffer_unique {s t : State} (hs : ReaderOk s) (ht : ReaderOk t) (hb : t.bits = s.bits)
    (hp : t.spos = s.spos) : t.consumed = s.consumed ∧ t.bitcnt = s.bitcnt ∧ t.bitbuf = s.bitbuf := by
  obtain ⟨hs7, hsb⟩ := hs
  obtain ⟨ht7, htb⟩ := ht
  unfold State.spos at hp
  have hcnt : t.bitcnt.toNat = s.bitcnt.toNat := by omega
  refine ⟨by omega, BitVec.eq_of_toNat_eq hcnt, BitVec.eq_of_toNat_eq ?_⟩
  have hbuf := congrArg bitsToNat (List.append_inj_left hb (by rw [length_natBits, length_natBits, hcnt]))
  rw [bitsToNat_natBits, bitsToNat_natBits, Nat.mod_eq_of_lt htb, Nat.mod_eq_of_lt hsb] at hbuf
  exact hbuf

/-- Two groups read one after another join as one (R137). -/
theorem bitsToNat_take_add (a b : Nat) (bits : Bits) (h : a ≤ bits.length) :
    bitsToNat (bits.take (a + b)) = bitsToNat (bits.take a) ||| bitsToNat ((bits.drop a).take b) <<< a := by
  have hlen : (bits.take a).length = a := List.length_take_of_le h
  have hlt := bitsToNat_lt (bits.take a)
  rw [hlen] at hlt
  rw [List.take_add, bitsToNat_append, hlen, or_shift_eq hlt, Nat.mul_comm]

/-- With the bits ahead, one request and two leave the same state but for the response (R137). -/
theorem takeBitsSplits_ok {a b ab : BitVec 5} {s : State} (hab : ab.toNat = a.toNat + b.toNat)
    (h16 : a.toNat + b.toNat ≤ 16) (hr : ReaderOk s) (hlen : a.toNat + b.toNat ≤ s.bits.length) :
    ∃ t u v, exec (.takeBits ab) s = .next t ∧ exec (.takeBits a) s = .next u ∧
      exec (.takeBits b) u = .next v ∧ v = { t with result := v.result } ∧
      t.result.toNat = u.result.toNat ||| (v.result.toNat <<< a.toNat) := by
  rw [← hab] at h16 hlen
  obtain ⟨t, ht, htb, htr, _, _, htp⟩ := takeBits_ok hr h16 hlen
  obtain ⟨u, hu, hub, hur, _, _, hup⟩ := takeBits_ok (n := a.toNat) hr (by omega) (by omega)
  let u' : State := { u with result := BitVec.ofNat 16 (bitsToNat (s.bits.take a.toNat)) }
  have hub' : u'.bits = s.bits.drop a.toNat := hub
  have hup' : u'.spos = s.spos + a.toNat := hup
  obtain ⟨v, hv, hvb, hvr, _, _, hvp⟩ := takeBits_ok (n := b.toNat) (s := u') hur (by omega)
    (by rw [hub', List.length_drop]; omega)
  refine ⟨_, u', _, exec_takeBits_ok ht, exec_takeBits_ok hu, exec_takeBits_ok hv, ?_, ?_⟩
  · obtain ⟨hc, hcnt, hbuf⟩ := buffer_unique htr hvr
      (by rw [hvb, hub', List.drop_drop, htb, hab]) (by rw [hvp, hup', htp, hab]; push_cast; ring)
    have huu : LoadedFrom u u' := .of_buffer rfl
    have hload := (takeBits_loadedFrom ht).unique
      (((takeBits_loadedFrom hu).trans huu).trans (takeBits_loadedFrom hv)) hc
    rw [hload, hcnt, hbuf]
  · show (BitVec.ofNat 16 _).toNat = (BitVec.ofNat 16 _).toNat ||| (BitVec.ofNat 16 _).toNat <<< _
    rw [toNat_group h16, toNat_group (by omega), toNat_group (by omega), hub', hab,
      bitsToNat_take_add _ _ _ (by omega)]

/-- Settles O16: `takeBitsSplits_ok`, and where the bits run out the request that meets the end. -/
theorem takeBitsSplits : Obligations.TakeBitsSplits := by
  intro s a b h16 hr
  have hab : (a + b).toNat = a.toNat + b.toNat := by
    rw [BitVec.toNat_add, Nat.mod_eq_of_lt (by omega)]
  refine ⟨takeBitsSplits_ok hab h16 hr, fun hlen => ⟨?_, ?_⟩⟩
  · obtain ⟨t, ht, hf, _⟩ := exec_takeBits_end (n := a + b) hr (by omega) (by omega)
    exact ⟨t, ht, hf⟩
  · by_cases ha : s.bits.length < a.toNat
    · obtain ⟨u, hu, hf, _⟩ := exec_takeBits_end hr (by omega) ha
      exact ⟨u, hu, .inl hf⟩
    · obtain ⟨u, hu, hub, hur, hf, _⟩ := takeBits_ok (n := a.toNat) hr (by omega) (by omega)
      let u' : State := { u with result := BitVec.ofNat 16 (bitsToNat (s.bits.take a.toNat)) }
      have hub' : u'.bits = s.bits.drop a.toNat := hub
      obtain ⟨v, hv, hf', _⟩ := exec_takeBits_end (n := b) (s := u') hur (by omega)
        (by rw [hub', List.length_drop]; omega)
      exact ⟨u', exec_takeBits_ok hu, .inr ⟨(by rw [hf] : u.state = s.state), v, hv, hf'⟩⟩

end Sys2Proof.Machine

/-! SUPPORT. What the core refuses by name, and what its request port runs. -/

namespace Sys2Proof.Machine

/-- Settles O27: each request meets the refusing branch of its operation. -/
theorem refusedRequests : Obligations.RefusedRequests := by
  refine ⟨fun s n hn => ?_, fun s a ha => ?_, fun s a list n hn => ?_⟩
  · show ((takeBits n.toNat s).bind _).toOutcome = _
    rw [takeBits, hw_maxTake, if_pos hn]; rfl
  · show ((decodeSym a s).bind _).toOutcome = _
    rw [decodeSym, if_pos ha]; rfl
  · show (constructInto a list n.toNat s).toOutcome = _
    rw [constructInto, if_pos hn]; rfl

/-- Outside boot, and until a session has ended, a waiting request is served (log 10). -/
theorem step_request {s : State} {r : Request} (hq : s.req = some r) (hne : r ≠ .hardReset)
    (hb : ¬ (s.state = .idle ∧ s.tablesBuilt = false)) (hd : s.state ≠ .done) (he : s.state ≠ .error) :
    step s = serve r { s with req := none } := by
  refine step_serve hq hne ?_ (.inl ?_)
  · simpa [State.booting] using hb
  · unfold State.ended
    cases hs : s.state <;> simp_all

/-- A code asked for that the stream holds runs its row, at a state past the code's bits (R172; log 10). -/
theorem serve_code {a : Alphabet} {s : State} {i : Instr} {rest : Bits} (hr : ReaderOk s)
    (ht : s.table a = fixedTable a) (hdec : decode (.code a) s.bits = .ok (i, rest)) :
    ∃ u, serve (.code a) s = exec i u ∧ u.bits = rest ∧ SameButFetch s u ∧ u.lit = s.lit ∧
      u.dict = s.dict ∧ u.pushes = s.pushes := by
  have hreads := fetchCode_reads hr ht
  rw [hdec] at hreads
  obtain ⟨u, hu, hb, _, ⟨hf, hheader⟩, hp, _⟩ := hreads
  obtain ⟨hlit, hdict⟩ := hheader rfl
  refine ⟨u, ?_, hb, hf, hlit, hdict, hp⟩
  show runFetched (fetchCode a s) = _
  rw [hu, runFetched_ok]

/-- Settles O8: `serve` on each kind of request. -/
theorem requestsRunOperations : Obligations.RequestsRunOperations := by
  intro s hb hd he
  refine ⟨fun i hq hi => ?_, fun i hq hi => ?_, fun a i rest hq hr ht hdec => ?_⟩
  · rw [step_request hq (by simp) hb hd he, serve, if_pos hi]
  · rw [step_request hq (by simp) hb hd he, serve, if_neg (Bool.eq_false_iff.mp hi)]
  · have htable : ({ s with req := none } : State).table a = fixedTable a := by
      rw [← ht a]; cases a <;> rfl
    rw [step_request hq (by simp) hb hd he]
    exact serve_code (s := { s with req := none }) hr htable hdec

end Sys2Proof.Machine

/-! SUPPORT. How the input is cut into chunks does not show (R135): two sessions that differ in it only go the same
way, operation by operation, instruction by instruction, and step by step. -/

namespace Sys2Proof.Machine

variable {α β : Type}

/-! ### Operations that end alike -/

/-- Two operations end in the same way and with the same value, in states related by `R`. -/
def Res.Alike (R : State → State → Prop) (r r' : Res α) : Prop :=
  match r with
  | .ok a s => ∃ t, r' = .ok a t ∧ R s t
  | .raised k s => ∃ t, r' = .raised k t ∧ R s t
  | .fault x => r' = .fault x
  | .refused x => r' = .refused x

theorem Res.Alike.bind {R : State → State → Prop} {r r' : Res α} {f g : α → State → Res β}
    (h : r.Alike R r') (hf : ∀ a s t, R s t → (f a s).Alike R (g a t)) :
    (r.bind f).Alike R (r'.bind g) := by
  cases r with
  | ok a s => obtain ⟨t, rfl, h⟩ := h; exact hf a s t h
  | raised k s => obtain ⟨t, rfl, h⟩ := h; exact ⟨t, rfl, h⟩
  | fault x => cases h; rfl
  | refused x => cases h; rfl

theorem Res.Alike.ite {R : State → State → Prop} {p : Prop} [Decidable p] {r r' q q' : Res α}
    (hy : r.Alike R r') (hn : q.Alike R q') :
    (if p then r else q).Alike R (if p then r' else q') := by
  split
  · exact hy
  · exact hn

/-- Where the first of two instructions answers a next state the second does, and `R` relates them. -/
def NextAlike (R : State → State → Prop) (o o' : Host.Outcome State Fault Refusal) : Prop :=
  ∀ t, o = .next t → ∃ t', o' = .next t' ∧ R t t'

theorem NextAlike.next {R : State → State → Prop} {s s' : State} (h : R s s') :
    NextAlike R (.next s) (.next s') := fun t e => by
  cases e; exact ⟨s', rfl, h⟩

theorem NextAlike.refused {R : State → State → Prop} {x : Refusal} {o : Host.Outcome State Fault Refusal} :
    NextAlike R (.refused x) o := fun t e => by cases e

theorem NextAlike.fault {R : State → State → Prop} {x : Fault} {o : Host.Outcome State Fault Refusal} :
    NextAlike R (.fault x) o := fun t e => by cases e

/-! ### The same bytes in other chunks -/

/-- `s` is a running session left to itself, and `s'` is `s` but for how the bytes still to come are cut and
what has been pulled (R135). -/
def Recut (s s' : State) : Prop :=
  ∃ inq src bus, s' = { s with inq := inq, src := src, bus := bus } ∧
    inq ++ upcoming src = s.bytesAhead ∧ pushesOf bus = s.pushes ∧ s.running = true ∧ s.req = none

/-- Two sessions that have ended in the same way. -/
def EndedAlike (s s' : State) : Prop :=
  s.ended = true ∧ s.req = none ∧ s'.req = none ∧ s'.state = s.state ∧ s'.status = s.status ∧
    s'.pushes = s.pushes

/-- What R135 says of two sessions after the same number of steps. -/
def SameRun (s s' : State) : Prop := Recut s s' ∨ EndedAlike s s'

theorem Recut.raise {s s' : State} (h : Recut s s') (k : ErrorKind) : SameRun (s.raise k) (s'.raise k) := by
  obtain ⟨_, _, _, rfl, _, hp, _, hq⟩ := h
  exact .inr ⟨rfl, hq, hq, rfl, rfl, hp⟩

theorem Recut.finish {s s' : State} (h : Recut s s') : SameRun s.finish s'.finish := by
  obtain ⟨_, _, _, rfl, _, hp, _, hq⟩ := h
  exact .inr ⟨rfl, hq, hq, rfl, rfl, hp⟩

theorem Recut.table {s s' : State} (h : Recut s s') (a : Alphabet) : s'.table a = s.table a := by
  obtain ⟨inq, src, bus, rfl, _⟩ := h
  cases a <;> rfl

/-- Going on with an instruction: a raise ends both sessions. -/
theorem Res.Alike.outcome {r r' : Res α} {f g : α → State → Res Unit}
    (h : r.Alike Recut r')
    (hf : ∀ a s s', Recut s s' → NextAlike SameRun (f a s).toOutcome (g a s').toOutcome) :
    NextAlike SameRun (r.bind f).toOutcome (r'.bind g).toOutcome := by
  cases r with
  | ok a s => obtain ⟨t, rfl, h⟩ := h; exact hf a s t h
  | raised k s => obtain ⟨t, rfl, h⟩ := h; exact .next (h.raise k)
  | fault x => exact .fault
  | refused x => exact .refused

theorem Res.Alike.toOutcome {r r' : Res Unit} (h : r.Alike Recut r') :
    NextAlike SameRun r.toOutcome r'.toOutcome := by
  cases r with
  | ok a s => obtain ⟨t, rfl, h⟩ := h; exact .next (.inl h)
  | raised k s => obtain ⟨t, rfl, h⟩ := h; exact .next (h.raise k)
  | fault x => exact .fault
  | refused x => exact .refused

/-! ### Reading the stream -/

/-- Both take the same byte, or both meet the end of the input, whoever of them pulls (R132). -/
theorem fetchByte_recut {s s' : State} (h : Recut s s') : (fetchByte s).Alike Recut (fetchByte s') := by
  obtain ⟨inq, src, bus, rfl, hb, hp, hk⟩ := h
  cases hs : s.bytesAhead with
  | nil =>
    rw [fetchByte_end hs, fetchByte_end (s := { s with inq := inq, src := src, bus := bus }) (hb.trans hs)]
    exact ⟨_, rfl, inq, src, bus ++ [.pull []], rfl, hb, by simp [State.pushes, hp, pushesOf], hk⟩
  | cons b rest =>
    obtain ⟨t, ht, hbt, hf, hpt⟩ := fetchByte_ok hs
    obtain ⟨t', ht', hbt', hf', hpt'⟩ := fetchByte_ok (s := { s with inq := inq, src := src, bus := bus })
      (hb.trans hs)
    rw [ht, ht']
    have hkt : t.running = true ∧ t.req = none := by rw [hf]; exact hk
    exact ⟨_, rfl, t'.inq, t'.src, t'.bus, by rw [hf', hf], hbt'.trans hbt.symm,
      (hpt'.trans hp).trans hpt.symm, hkt⟩

theorem refill_recut (n : Nat) : ∀ (fuel : Nat) (val : BitVec 23) {s s' : State}, Recut s s' →
    (refill fuel n val s).Alike Recut (refill fuel n val s')
  | 0, _, _, _, h => ⟨_, rfl, h⟩
  | fuel + 1, val, s, s', h => by
    have hload := fetchByte_recut h
    obtain ⟨inq, src, bus, rfl, hk⟩ := h
    refine Res.Alike.ite (hload.bind fun b t t' ht => ?_) ⟨_, rfl, inq, src, bus, rfl, hk⟩
    obtain ⟨inq, src, bus, rfl, hk⟩ := ht
    exact refill_recut n fuel _ ⟨inq, src, bus, rfl, hk⟩

theorem takeBits_recut (n : Nat) {s s' : State} (h : Recut s s') :
    (takeBits n s).Alike Recut (takeBits n s') := by
  have hload (val : BitVec 23) := refill_recut n 2 val h
  obtain ⟨inq, src, bus, rfl, hk⟩ := h
  refine Res.Alike.ite rfl ((hload s.bitbuf).bind fun val t t' ht => ?_)
  obtain ⟨inq, src, bus, rfl, hk⟩ := ht
  exact ⟨_, rfl, inq, src, bus, rfl, hk⟩

theorem decodeWalk_recut (symbol : List Nat) (absent : Nat) : ∀ (counts : List Nat) (code firstc index : Nat)
    {s s' : State}, Recut s s' → (decodeWalk symbol absent counts code firstc index s).Alike Recut
      (decodeWalk symbol absent counts code firstc index s')
  | [], _, _, _, _, _, h => ⟨_, rfl, h⟩
  | _ :: counts, _, _, _, _, _, h => (takeBits_recut 1 h).bind fun _ _ _ ht =>
    .ite ⟨_, rfl, ht⟩ (decodeWalk_recut symbol absent counts _ _ _ ht)

theorem decodeSym_recut (a : Alphabet) {s s' : State} (h : Recut s s') :
    (decodeSym a s).Alike Recut (decodeSym a s') := by
  have hfresh : s'.fresh = s.fresh := by obtain ⟨_, _, _, rfl, _⟩ := h; rfl
  unfold decodeSym
  rw [h.table a, hfresh]
  refine .ite rfl ((decodeWalk_recut _ _ _ _ _ _ h).bind fun k t t' ht => ?_)
  obtain ⟨inq, src, bus, rfl, hk⟩ := ht
  exact ⟨_, rfl, inq, src, bus, rfl, hk⟩

theorem readByteField_recut {s s' : State} (h : Recut s s') :
    (readByteField s).Alike Recut (readByteField s') :=
  (takeBits_recut 8 h).bind fun _ _ _ ht => ⟨_, rfl, ht⟩

theorem readLength_recut {s s' : State} (h : Recut s s') : (readLength s).Alike Recut (readLength s') :=
  (decodeSym_recut .len h).bind fun k _ _ ht => (takeBits_recut (lenExtra k) ht).bind fun _ _ _ hu => by
    obtain ⟨inq, src, bus, rfl, hk⟩ := hu
    exact ⟨_, rfl, inq, src, bus, rfl, hk⟩

theorem readDistance_recut (x : Nat) {s s' : State} (h : Recut s s') :
    (readDistance x s).Alike Recut (readDistance x s') :=
  (decodeSym_recut .dist h).bind fun _ _ _ ht => (takeBits_recut x ht).bind fun _ _ _ hu => by
    obtain ⟨inq, src, bus, rfl, hk⟩ := hu
    exact ⟨_, rfl, inq, src, bus, rfl, hk⟩

theorem headerLit_recut (b : Byte) {s s' : State} (h : Recut s s') :
    (headerLit b s).Alike Recut (headerLit b s') := by
  obtain ⟨inq, src, bus, rfl, hk⟩ := h
  exact .ite ⟨_, rfl, inq, src, bus, rfl, hk⟩ ⟨_, rfl, inq, src, bus, rfl, hk⟩

theorem headerDict_recut (b : Byte) {s s' : State} (h : Recut s s') :
    (headerDict b s).Alike Recut (headerDict b s') := by
  obtain ⟨inq, src, bus, rfl, hk⟩ := h
  exact .ite ⟨_, rfl, inq, src, bus, rfl, hk⟩ ⟨_, rfl, inq, src, bus, rfl, hk⟩

theorem fetchHeader_recut {s s' : State} (h : Recut s s') : (fetchHeader s).Alike Recut (fetchHeader s') :=
  (readByteField_recut h).bind fun lit _ _ h => (headerLit_recut lit h).bind fun _ _ _ h =>
    (readByteField_recut h).bind fun dict _ _ h => (headerDict_recut dict h).bind fun _ _ _ h => ⟨_, rfl, h⟩

theorem fetchLiteral_recut {s s' : State} (h : Recut s s') :
    (fetchLiteral s).Alike Recut (fetchLiteral s') := by
  have hlit : s'.codedLiterals = s.codedLiterals := by obtain ⟨_, _, _, rfl, _⟩ := h; rfl
  unfold fetchLiteral
  rw [hlit]
  exact .ite ((decodeSym_recut .lit h).bind fun _ _ _ ht => ⟨_, rfl, ht⟩)
    ((readByteField_recut h).bind fun _ _ _ ht => ⟨_, rfl, ht⟩)

theorem fetchPair_recut {s s' : State} (h : Recut s s') : (fetchPair s).Alike Recut (fetchPair s') :=
  (readLength_recut h).bind fun len t t' ht => by
    have hdict : t'.dict = t.dict := by obtain ⟨_, _, _, rfl, _⟩ := ht; rfl
    rw [hdict]
    exact .ite ⟨_, rfl, ht⟩
      ((readDistance_recut _ ht).bind fun _ _ _ hu => .ite ⟨_, rfl, hu⟩ ⟨_, rfl, hu⟩)

theorem fetchCode_recut (a : Alphabet) {s s' : State} (h : Recut s s') :
    (fetchCode a s).Alike Recut (fetchCode a s') :=
  (decodeSym_recut a h).bind fun k _ _ ht => by
    cases (codeInstrs a)[k]? with
    | some i => exact ⟨_, rfl, ht⟩
    | none => exact ⟨_, rfl, ht⟩

/-- Fetching reads the same instruction whatever the chunks. -/
theorem fetch_recut (ctx : Ctx) {s s' : State} (h : Recut s s') :
    (fetch ctx s).Alike Recut (fetch ctx s') := by
  cases ctx with
  | header => exact fetchHeader_recut h
  | token _ _ =>
    exact (takeBits_recut 1 h).bind fun _ _ _ ht => .ite (fetchLiteral_recut ht) (fetchPair_recut ht)
  | code a => exact fetchCode_recut a h

/-! ### Emitting bytes -/

theorem push_recut (bytes : List Byte) {s s' : State} (h : Recut s s') :
    Recut (push bytes s).2 (push bytes s').2 := by
  have hpushes : (push bytes s').2.pushes = (push bytes s).2.pushes := by
    obtain ⟨_, _, _, rfl, _, hp, _⟩ := h
    rw [push_pushes, push_pushes]
    exact congrArg (· ++ [(bytes, s.nextAnswer)]) hp
  rw [push_eq, push_eq] at *
  obtain ⟨inq, src, bus, rfl, hb, _, hk⟩ := h
  exact ⟨inq, src, _, rfl, hb, hpushes, hk⟩

theorem flush_recut {s s' : State} (h : Recut s s') : (flush s).Alike Recut (flush s') := by
  have hpush (bytes : List Byte) := push_recut bytes h
  have hsame : s'.next = s.next ∧ s'.win = s.win ∧ s'.nextAnswer = s.nextAnswer := by
    obtain ⟨_, _, _, rfl, _⟩ := h; exact ⟨rfl, rfl, rfl⟩
  obtain ⟨hnext, hwin, hans⟩ := hsame
  rcases flush_cases (s := s) with ⟨h0, e⟩ | ⟨h0, hr, e⟩ | ⟨bytes, h0, hr, e⟩ <;> rw [e]
  · exact ⟨s', flush_empty (by rw [hnext, h0]), h⟩
  · show flush s' = _
    rw [flush, hnext, if_neg h0, readRun, hwin, hr]
    rfl
  · rw [flush_push (s := s') (by rwa [hnext]) (by rw [hwin, hnext, hr]), hans]
    exact .ite ⟨_, rfl, hpush bytes⟩ ⟨_, rfl, hpush bytes⟩

theorem wrap_recut {s s' : State} (h : Recut s s') : (wrap s).Alike Recut (wrap s') :=
  (flush_recut h).bind fun _ _ _ ht => by
    obtain ⟨inq, src, bus, rfl, hk⟩ := ht
    exact ⟨_, rfl, inq, src, bus, rfl, hk⟩

theorem putByte_recut (b : Byte) {s s' : State} (h : Recut s s') :
    (putByte b s).Alike Recut (putByte b s') := by
  have hstored : Recut (s.stored b) (s'.stored b) := by
    obtain ⟨inq, src, bus, rfl, hk⟩ := h
    exact ⟨inq, src, bus, rfl, hk⟩
  have hnext : s'.next = s.next := by obtain ⟨_, _, _, rfl, _⟩ := h; rfl
  rw [putByte_eq, putByte_eq, hnext]
  exact .ite (wrap_recut hstored) ⟨_, rfl, hstored⟩

theorem readWin_recut (a : Nat) {s s' : State} (h : Recut s s') :
    (readWin a s).Alike Recut (readWin a s') := by
  have hwin : s'.win = s.win := by obtain ⟨_, _, _, rfl, _⟩ := h; rfl
  unfold readWin
  rw [hwin]
  cases s.win.read (a % hw.winSize) with
  | some b => exact ⟨_, rfl, h⟩
  | none => exact rfl

theorem copyLoop_recut : ∀ (n : Nat) {s s' : State}, Recut s s' → (copyLoop n s).Alike Recut (copyLoop n s')
  | 0, _, _, h => ⟨_, rfl, h⟩
  | n + 1, s, s', h => by
    have hsource : s'.sourceIndex = s.sourceIndex := by obtain ⟨_, _, _, rfl, _⟩ := h; rfl
    rw [copyLoop, copyLoop, hsource]
    refine (readWin_recut _ h).bind fun b _ _ ht => (putByte_recut b ht).bind fun _ _ _ hu => ?_
    obtain ⟨inq, src, bus, rfl, hk⟩ := hu
    exact copyLoop_recut n ⟨inq, src, bus, rfl, hk⟩

theorem copy_recut (len : BitVec 10) (dist : BitVec 13) {s s' : State} (h : Recut s s') :
    (copy len dist s).Alike Recut (copy len dist s') := by
  obtain ⟨inq, src, bus, rfl, hk⟩ := h
  exact copyLoop_recut _ ⟨inq, src, bus, rfl, hk⟩

theorem backReference_recut (len : BitVec 10) (dist : BitVec 13) {s s' : State} (h : Recut s s') :
    (backReference len dist s).Alike Recut (backReference len dist s') := by
  obtain ⟨inq, src, bus, rfl, hk⟩ := h
  refine .ite ⟨_, rfl, inq, src, bus, rfl, hk⟩
    ((copy_recut len dist ⟨inq, src, bus, rfl, hk⟩).bind fun _ _ _ ht => ?_)
  obtain ⟨inq, src, bus, rfl, hk⟩ := ht
  exact ⟨_, rfl, inq, src, bus, rfl, hk⟩

/-! ### Instructions and steps -/

theorem constructInto_recut (a : Alphabet) (list : List Byte) (n : Nat) {s s' : State} (h : Recut s s') :
    (constructInto a list n s).Alike Recut (constructInto a list n s') := by
  obtain ⟨inq, src, bus, rfl, hk⟩ := h
  refine .ite rfl ⟨_, rfl, ?_⟩
  cases a <;> exact ⟨inq, src, bus, rfl, hk⟩

/-- Every instruction goes the same way whatever the chunks (R135). -/
theorem exec_recut (i : Instr) {s s' : State} (h : Recut s s') :
    NextAlike SameRun (exec i s) (exec i s') := by
  cases i using instr_rowCases with
  | code i p hp =>
    rw [exec_code hp, exec_code hp]
    obtain ⟨inq, src, bus, rfl, hk⟩ := h
    exact .next (.inl ⟨inq, src, bus, rfl, hk⟩)
  | readme => exact .refused
  | hdr lit dict =>
    refine ((headerLit_recut lit h).bind fun _ _ _ h => (headerDict_recut dict h).bind fun _ _ _ h => ?_).toOutcome
    obtain ⟨inq, src, bus, rfl, hb, hp, _, hq⟩ := h
    exact ⟨_, rfl, inq, src, bus, rfl, hb, hp, rfl, hq⟩
  | litRaw b => exact (putByte_recut b h).toOutcome
  | litHuf b => exact (putByte_recut b h).toOutcome
  | match2 dist => exact (backReference_recut 2 dist h).toOutcome
  | matchN len dist => exact (backReference_recut len dist h).toOutcome
  | endMark => exact (flush_recut h).outcome fun _ _ _ ht => .next ht.finish
  | start =>
    obtain ⟨_, _, _, _, _, _, hr, _⟩ := h
    show NextAlike _ (execStart s) _
    rw [execStart, if_pos hr]
    exact .refused
  | takeBits n =>
    refine ((takeBits_recut n.toNat h).bind fun _ _ _ h => ?_).toOutcome
    obtain ⟨inq, src, bus, rfl, hk⟩ := h
    exact ⟨_, rfl, inq, src, bus, rfl, hk⟩
  | fetchByte =>
    refine ((fetchByte_recut h).bind fun _ _ _ h => ?_).toOutcome
    obtain ⟨inq, src, bus, rfl, hk⟩ := h
    exact ⟨_, rfl, inq, src, bus, rfl, hk⟩
  | construct a list n => exact (constructInto_recut a list n.toNat h).toOutcome
  | decode a => exact (decodeSym_recut a h).outcome fun _ _ _ ht => .next (.inl ht)
  | putByte b => exact (putByte_recut b h).toOutcome
  | copy len dist => exact (copy_recut len dist h).toOutcome
  | flush => exact (flush_recut h).toOutcome
  | wrap => exact (wrap_recut h).toOutcome

theorem runFetched_recut {r r' : Res Instr} (h : r.Alike Recut r') :
    NextAlike SameRun (runFetched r) (runFetched r') := by
  cases r with
  | ok i s => obtain ⟨t, rfl, h⟩ := h; exact exec_recut i h
  | raised k s => obtain ⟨t, rfl, h⟩ := h; exact .next (h.raise k)
  | fault x => exact .fault
  | refused x => exact .refused

/-- A step of a running session goes the same way whatever the chunks. -/
theorem step_recut {s s' : State} (h : Recut s s') : NextAlike SameRun (step s) (step s') := by
  have hfetch := fetch_recut s.ctx h
  obtain ⟨inq, src, bus, rfl, _, _, hr, hq⟩ := h
  rw [step_session hq hr, step_session (s := { s with inq := inq, src := src, bus := bus }) hq hr]
  exact runFetched_recut hfetch

/-- A session that has ended stays as it is while nothing waits (R232, R260). -/
theorem step_ended_none {s : State} (he : s.ended = true) (hq : s.req = none) : step s = .next s := by
  unfold State.ended at he
  apply step_quiet hq
  · unfold State.running; split at he <;> simp_all
  · unfold State.booting; split at he <;> simp_all

theorem step_endedAlike {s s' : State} (h : EndedAlike s s') : NextAlike SameRun (step s) (step s') := by
  obtain ⟨he, hq, hq', hs, _⟩ := id h
  have he' : s'.ended = true := by unfold State.ended at *; rwa [hs]
  rw [step_ended_none he hq, step_ended_none he' hq']
  exact .next (.inr h)

/-- A step goes the same way whatever the chunks (R135). -/
theorem step_sameRun {s s' : State} (h : SameRun s s') : NextAlike SameRun (step s) (step s') :=
  h.elim step_recut step_endedAlike

/-- A run of one step more is a step and then the run. -/
theorem run_succ_eq_next {M : Host.Core} {k : Nat} {s t : M.State} :
    M.run (k + 1) s = .next t ↔ ∃ u, M.step s = .next u ∧ M.run k u = .next t := by
  rw [Host.Core.run]
  cases M.step s <;> simp

theorem run_sameRun : ∀ (k : Nat) {s s' : State}, SameRun s s' →
    NextAlike SameRun (Sys2Proof.core.run k s) (Sys2Proof.core.run k s')
  | 0, _, _, h => .next h
  | k + 1, s, s', h => fun t ht => by
    obtain ⟨u, hu, ht⟩ := run_succ_eq_next.mp ht
    obtain ⟨u', hu', h⟩ := step_sameRun h u hu
    obtain ⟨t', ht', h⟩ := run_sameRun k h t ht
    exact ⟨t', run_succ_eq_next.mpr ⟨u', hu', ht'⟩, h⟩

theorem SameRun.observed {s s' : State} (h : SameRun s s') :
    s'.state = s.state ∧ s'.status = s.status ∧ s'.pushes = s.pushes := by
  rcases h with ⟨_, _, _, rfl, _, hp, _⟩ | ⟨_, _, _, h⟩
  · exact ⟨rfl, rfl, hp⟩
  · exact h

/-- Settles O18: the relation `SameRun` holds at the start, every step keeps it, and it shows in nothing that is
observed. -/
theorem chunkingUnobservable : Obligations.ChunkingUnobservable := by
  intro k s s' hr hq hs hb hp t ht
  have h : Recut s s' := ⟨_, _, _, hs, hb, hp, hr, hq⟩
  obtain ⟨t', ht', hrun⟩ := run_sameRun k (.inl h) t ht
  exact ⟨t', ht', hrun.observed⟩

end Sys2Proof.Machine

/-! SUPPORT. What `construct` leaves: the table it builds, its counts, and its status. -/

namespace Sys2Proof.Machine

/-! ### construct as an instruction (R150, R158) -/

/-- What `construct` comes to: it completes where the list is long enough, and then leaves the built table and
dead scratch. -/
theorem exec_construct_eq_next {a : Alphabet} {list : List Byte} {n : BitVec 9} {s t : State} :
    exec (.construct a list n) s = .next t ↔ n.toNat ≤ listSymbols list ∧
      t = (s.setTable a (buildTable (storedSymbol a s.fresh) (s.table a)
        (expandLengths list n.toNat))).forgetBuilder := by
  have hexec : exec (.construct a list n) s = (constructInto a list n.toNat s).toOutcome := rfl
  rw [hexec]
  rcases constructInto_cases a list n.toNat s with ⟨h, e⟩ | ⟨h, e⟩ <;> rw [e]
  · simp [Nat.not_le.mpr h]
  · simp [h, eq_comm]

/-- The table it leaves. -/
theorem table_construct {a : Alphabet} {list : List Byte} {n : BitVec 9} {s t : State}
    (h : exec (.construct a list n) s = .next t) :
    t.table a = buildTable (storedSymbol a s.fresh) (s.table a) (expandLengths list n.toNat) := by
  rw [(exec_construct_eq_next.mp h).2, table_forgetBuilder, table_setTable_same]

theorem exec_construct_fixed {a : Alphabet} {n : BitVec 9} {s : State} (h : SymbolSizes s)
    (hn : n.toNat = a.size) :
    exec (.construct a (fixedList a) n) s = .next (s.setTable a (fixedTable a)).forgetBuilder := by
  have hexec : exec (.construct a (fixedList a) n) s =
      (constructInto a (fixedList a) n.toNat s).toOutcome := rfl
  rw [hexec, hn, constructInto_fixed (h a), Res.toOutcome_ok]

/-- Settles O3: the three pairs are the fixed lists with their sizes. -/
theorem constructFixedLists : Obligations.ConstructFixedLists := by
  intro s hs p hp
  have built (a : Alphabet) (n : BitVec 9) (hn : n.toNat = a.size) :
      ∃ t, exec (.construct a (fixedList a) n) s = .next t ∧ t.table a = fixedTable a ∧
        (t.table a).status = 0 := by
    refine ⟨_, exec_construct_fixed hs hn, ?_⟩
    rw [table_forgetBuilder, table_setTable_same]
    exact ⟨rfl, fixedTable_status a⟩
  simp only [List.mem_cons, List.not_mem_nil, or_false] at hp
  rcases hp with rfl | rfl | rfl
  · exact built .lit 256 rfl
  · exact built .len 16 rfl
  · exact built .dist 64 rfl

/-! ### The counts (R152) -/

theorem histogram_zero (lengths : List Nat) : (histogram lengths).getD 0 0 = lengths.count 0 := rfl

theorem histogram_tail (lengths : List Nat) :
    (histogram lengths).tail = (List.range' 1 16).map (lengths.count ·) := rfl

@[simp] theorem buildTable_count (store : Nat → Nat) (old : HuffmanTable) (lengths : List Nat) :
    (buildTable store old lengths).count = histogram lengths := by
  rcases buildTable_cases store old lengths with ⟨_, e⟩ | ⟨_, _, e⟩ | ⟨_, _, e⟩ <;> rw [e]

/-- Settles O19: the built table is put in place, and nothing else is written but the scratch. -/
theorem constructCompletes : Obligations.ConstructCompletes := by
  intro a list n s hn
  refine ⟨_, exec_construct_eq_next.mpr ⟨hn, rfl⟩, ?_, fun b hb => ?_, ?_⟩
  · rw [table_forgetBuilder, table_setTable_same, buildTable_count]; rfl
  · rw [table_forgetBuilder, table_setTable_other _ _ hb]
  · rw [table_forgetBuilder, table_setTable_same]; rfl

/-! ### The status (R153, R154, R157) -/

/-- The all-zero list. -/
theorem buildTable_status_zero (store : Nat → Nat) (old : HuffmanTable) {lengths : List Nat}
    (h : lengths.count 0 = lengths.length) : (buildTable store old lengths).status = 0 := by
  rcases buildTable_cases store old lengths with ⟨_, e⟩ | ⟨h', _⟩ | ⟨h', _⟩
  · rw [e]
  · exact absurd h h'
  · exact absurd h h'

/-- Any other list. -/
theorem buildTable_status_coded (store : Nat → Nat) (old : HuffmanTable) {lengths : List Nat}
    (h : lengths.count 0 ≠ lengths.length) :
    (buildTable store old lengths).status = validate 1 (histogram lengths).tail := by
  rcases buildTable_cases store old lengths with ⟨h', _⟩ | ⟨_, _, e⟩ | ⟨_, _, e⟩
  · exact absurd h' h
  · rw [e]
  · rw [e]

@[simp] theorem leftAfter_zero (lengths : List Nat) : leftAfter lengths 0 = 1 := rfl

/-- The closed form obeys the recurrence of R154. -/
theorem leftAfter_succ (lengths : List Nat) (l : Nat) :
    leftAfter lengths (l + 1) = leftAfter lengths l * 2 - lengths.count (l + 1) := by
  have hsum : ((List.range l).map fun j => (lengths.count (j + 1) : Int) * 2 ^ (l + 1 - (j + 1))).sum =
      ((List.range l).map fun j => (lengths.count (j + 1) : Int) * 2 ^ (l - (j + 1))).sum * 2 := by
    rw [← List.sum_map_mul_right]
    congr 1
    refine List.map_congr_left fun j hj => ?_
    rw [show l + 1 - (j + 1) = l - (j + 1) + 1 by have := List.mem_range.mp hj; omega]
    ring
  simp only [leftAfter, List.range_succ, List.map_append, List.sum_append, List.map_cons, List.map_nil,
    List.sum_cons, List.sum_nil, hsum]
  rw [Nat.sub_self]
  ring

/-- The loop stops at the first negative `left`, or after the last length. -/
theorem validate_stops {lengths : List Nat} : ∀ {m l d : Nat}, d < m →
    (∀ j < d, 0 ≤ leftAfter lengths (l + j + 1)) → (leftAfter lengths (l + d + 1) < 0 ∨ d + 1 = m) →
    validate (leftAfter lengths l) ((List.range' (l + 1) m).map (lengths.count ·)) =
      leftAfter lengths (l + d + 1)
  | m + 1, l, d, hd, hpos, hstop => by
    simp only [List.range'_succ, List.map_cons, validate, ← leftAfter_succ]
    match d with
    | 0 =>
      rcases hstop with hneg | hlast
      · exact if_pos hneg
      · obtain rfl : m = 0 := by omega
        exact ite_self _
    | d + 1 =>
      have hl : ¬ leftAfter lengths (l + 1) < 0 := Int.not_lt.mpr (hpos 0 (by omega))
      rw [if_neg hl, show l + (d + 1) + 1 = l + 1 + d + 1 by omega]
      refine validate_stops (by omega) (fun j hj => ?_) ?_
      · rw [show l + 1 + j + 1 = l + (j + 1) + 1 by omega]
        exact hpos (j + 1) (by omega)
      · rw [show l + 1 + d + 1 = l + (d + 1) + 1 by omega]
        exact hstop.imp_right fun h => by omega

/-- What the validation of a list answers, by the length at which it stops. -/
theorem validate_histogram {lengths : List Nat} {l : Nat} (hl : l ≤ 16)
    (hpos : ∀ j < l, 0 ≤ leftAfter lengths j) (hstop : leftAfter lengths l < 0 ∨ l = 16) :
    validate 1 (histogram lengths).tail = leftAfter lengths l := by
  match l with
  | 0 => simp at hstop
  | d + 1 =>
    have h := validate_stops (lengths := lengths) (l := 0) (m := 16) (d := d) (by omega)
      (fun j hj => hpos _ (by omega)) (by simpa using hstop)
    simpa [histogram_tail] using h

/-- Settles O20: the two cases of `buildTable`'s status, and where the validation stops. -/
theorem constructStatus : Obligations.ConstructStatus := by
  intro a list n s t h
  rw [table_construct h]
  refine ⟨fun h0 => buildTable_status_zero _ _ h0, fun h0 hpos => ?_, fun h0 l hl hneg hpos => ?_⟩
  · rw [buildTable_status_coded _ _ h0]
    exact validate_histogram (Nat.le_refl 16) (fun j hj => hpos j (Nat.le_of_lt hj)) (.inr rfl)
  · rw [buildTable_status_coded _ _ h0]
    exact validate_histogram hl hpos (.inl hneg)

end Sys2Proof.Machine

/-! SUPPORT. On the table of a complete list 16 bits always start with a code (R161, R176). -/

namespace Sys2Proof.Machine

theorem shiftLeft_one_or_bit (c : Nat) (t : Bool) :
    c <<< 1 ||| (t.toNat ^^^ 1) = 2 * c + (t.toNat ^^^ 1) := by
  have hbit : t.toNat ^^^ 1 < 2 ^ 1 := by cases t <;> decide
  rw [Nat.shiftLeft_eq, Nat.mul_comm]
  exact (Nat.two_pow_add_eq_or_of_lt hbit c).symm

/-- Where the counts use up all codes, the loop of R172 finds one: the code bits read so far, less the first code
of their length, stay below the codes that are left, and in the end none is left. -/
theorem walk_complete (symbol : List Nat) (absent : Nat) : ∀ {counts : List Nat} {left : Int} {c f : Nat}
    {index : Nat} {bits : Bits}, validate left counts = 0 → f ≤ c → (c : Int) < f + left →
    counts.length ≤ bits.length →
    ∃ k rest, walk symbol absent counts (c <<< 1) (f <<< 1) index bits = .ok (k, rest) ∧
      rest.length < bits.length ∧ bits.length ≤ rest.length + counts.length
  | [], left, c, f, _, _, hv, hc, hlt, _ => by
    have : left = 0 := hv
    omega
  | cnt :: counts, left, c, f, index, t :: bits, hv, hc, hlt, hlen => by
    simp only [List.length_cons, Nat.add_le_add_iff_right] at hlen
    simp only [walk, shiftLeft_one_or_bit]
    have hbit : t.toNat ^^^ 1 ≤ 1 := by cases t <;> decide
    split
    · exact ⟨_, _, rfl, by simp, by simp⟩
    · rename_i hmiss
      simp only [validate] at hv
      split at hv
      · omega
      · obtain ⟨k, rest, hw, hshort, hlong⟩ := walk_complete symbol absent (index := index + cnt)
          (c := 2 * c + (t.toNat ^^^ 1)) (f := f <<< 1 + cnt) hv (by omega) (by omega) hlen
        exact ⟨k, rest, hw, by simp; omega, by simp; omega⟩

/-- `decode` where the bits ahead hold a code: the state it leaves. -/
theorem decode_of_walk {a : Alphabet} {s : State} {k : Nat} {rest : Bits} (hr : ReaderOk s)
    (hstatus : 0 ≤ (s.table a).status)
    (hw : walk (s.table a).symbol (absentSlot a s.fresh) (s.table a).count.tail 0 0 0 s.bits = .ok (k, rest)) :
    ∃ t, exec (.decode a) s = .next (t.setSym k) ∧ t.bits = rest ∧ ReaderOk t ∧ SameButReader s t ∧
      t.pushes = s.pushes ∧ t.spos + rest.length = s.spos + s.bits.length := by
  have htracks := decodeWalk_tracks (s.table a).symbol (absentSlot a s.fresh) (s.table a).count.tail 0 0 0 hr
  rw [hw] at htracks
  obtain ⟨t, ht, h⟩ := htracks
  have hexec : exec (.decode a) s = ((decodeSym a s).bind fun _ s => .ok () s).toOutcome := rfl
  refine ⟨t, ?_, h⟩
  rw [hexec, decodeSym, if_neg (Int.not_lt.mpr hstatus), ht]
  rfl

/-- Settles O24: on a complete list the loop of `decode` finds a code (`walk_complete`). -/
theorem completeTableDecodes : Obligations.CompleteTableDecodes := by
  intro a list n s t u h hcoded hstatus hu hr hlen
  have htable := table_construct h
  rw [htable, buildTable_status_coded _ _ hcoded] at hstatus
  have hcount : (u.table a).count = histogram (expandLengths list n.toNat) := by
    rw [hu, htable, buildTable_count]
  have hnonneg : 0 ≤ (u.table a).status := by
    rw [hu, htable, buildTable_status_coded _ _ hcoded, hstatus]
  obtain ⟨k, rest, hw, hshort, hlong⟩ := walk_complete (u.table a).symbol (absentSlot a u.fresh)
    (c := 0) (f := 0) (index := 0) (bits := u.bits) hstatus (Nat.le_refl 0) (by decide)
    (by simpa using hlen)
  rw [← hcount] at hw
  obtain ⟨v, hv, _, _, hsame, _, hpos⟩ := decode_of_walk hr hnonneg hw
  have h16 : (histogram (expandLengths list n.toNat)).tail.length = 16 := by simp
  refine ⟨v.setSym k, hv, ?_, ?_, ?_, ?_⟩
  · rw [setSym_state, hsame]
  · rw [setSym_status, hsame]
  · show u.spos < v.spos
    omega
  · show v.spos ≤ u.spos + 16
    omega

end Sys2Proof.Machine

/-! SUPPORT. Where `construct` places symbols: each in its length's block of slots, and nothing outside the
blocks. -/

namespace Sys2Proof.Machine

/-! ### The slots of a length (R155) -/

/-- Each length's slots still to fill end where the next length's begin, or before. -/
def BlocksApart (lengths offs : List Nat) : Prop :=
  ∀ i j, i < j → j < offs.length → offs.getD i 0 + lengths.count (i + 1) ≤ offs.getD j 0

/-- Filling the first slot of a length's block leaves the rest of it. -/
theorem getD_set_succ_add_count (lengths offs : List Nat) {l : Nat} (hl : l < offs.length) (j : Nat) :
    (offs.set l (offs.getD l 0 + 1)).getD j 0 + lengths.count (j + 1) =
      offs.getD j 0 + ((l + 1) :: lengths).count (j + 1) := by
  simp only [List.getD_eq_getElem?_getD, List.getElem?_set, List.count_cons]
  by_cases h : l = j
  · subst h; simp [hl]; omega
  · simp [h]

theorem le_getD_set_succ (offs : List Nat) (l j : Nat) :
    offs.getD j 0 ≤ (offs.set l (offs.getD l 0 + 1)).getD j 0 := by
  simp only [List.getD_eq_getElem?_getD, List.getElem?_set]
  by_cases h : l = j
  · subst h; by_cases hl : l < offs.length <;> simp [hl]
  · simp [h]

theorem BlocksApart.tail {lengths offs : List Nat} {l : Nat} (h : BlocksApart ((l + 1) :: lengths) offs)
    (hl : l < offs.length) : BlocksApart lengths (offs.set l (offs.getD l 0 + 1)) := by
  intro i j hij hj
  rw [List.length_set] at hj
  rw [getD_set_succ_add_count lengths offs hl]
  exact (h i j hij hj).trans (le_getD_set_succ offs l j)

theorem BlocksApart.tail_zero {lengths offs : List Nat} (h : BlocksApart (0 :: lengths) offs) :
    BlocksApart lengths offs := by
  intro i j hij hj
  simpa using h i j hij hj

/-- A slot in no length's block keeps its entry (R65, R159 f). -/
theorem placeSymbols_outside (store : Nat → Nat) {p : Nat} : ∀ {lengths offs : List Nat} {k : Nat}
    {symbol : List Nat}, (∀ l ∈ lengths, l ≤ offs.length) →
    (∀ l < offs.length, p < offs.getD l 0 ∨ offs.getD l 0 + lengths.count (l + 1) ≤ p) →
    (placeSymbols store lengths k offs symbol)[p]? = symbol[p]?
  | [], _, _, _, _, _ => rfl
  | 0 :: lengths, offs, k, symbol, hlen, hp => by
    rw [placeSymbols]
    exact placeSymbols_outside store (List.forall_mem_cons.mp hlen).2 (by simpa using hp)
  | (m + 1) :: lengths, offs, k, symbol, hlen, hp => by
    obtain ⟨hm, hlen⟩ := List.forall_mem_cons.mp hlen
    rw [placeSymbols, placeSymbols_outside store (by simpa using hlen) (fun l hl => ?_)]
    · have hne : offs.getD m 0 ≠ p := by
        have := hp m hm
        rw [List.count_cons_self] at this
        omega
      exact List.getElem?_set_ne hne
    · rw [List.length_set] at hl
      rw [getD_set_succ_add_count lengths offs hm]
      exact (hp l hl).imp_left fun h => h.trans_le (le_getD_set_succ offs m l)

/-- A coded symbol goes to its length's block, behind the symbols of that length before it (R156). -/
theorem placeSymbols_placed (store : Nat → Nat) : ∀ {lengths offs : List Nat} {k i l : Nat}
    {symbol : List Nat}, (∀ l ∈ lengths, l ≤ offs.length) → BlocksApart lengths offs →
    lengths[i]? = some (l + 1) → offs.getD l 0 + (lengths.take i).count (l + 1) < symbol.length →
    (placeSymbols store lengths k offs symbol)[offs.getD l 0 + (lengths.take i).count (l + 1)]? =
      some (store (k + i))
  | 0 :: lengths, offs, k, i + 1, l, symbol, hlen, hb, hi, hp => by
    rw [List.take_succ_cons, List.count_cons_of_ne (Nat.succ_ne_zero l).symm] at hp ⊢
    rw [placeSymbols, placeSymbols_placed store (List.forall_mem_cons.mp hlen).2 hb.tail_zero hi hp,
      Nat.add_right_comm k 1 i]
    rfl
  | (m + 1) :: lengths, offs, k, 0, l, symbol, hlen, hb, hi, hp => by
    obtain rfl : m = l := by simpa using hi
    obtain ⟨hm, hlen⟩ := List.forall_mem_cons.mp hlen
    rw [List.take_zero, List.count_nil, Nat.add_zero] at hp ⊢
    rw [placeSymbols, placeSymbols_outside store (by simpa using hlen) (fun j hj => ?_),
      Nat.add_zero, Nat.add_zero, List.getElem?_set_self hp]
    rw [List.length_set] at hj
    rw [getD_set_succ_add_count lengths offs hm]
    rcases Nat.lt_trichotomy j m with hlt | rfl | hlt
    · exact .inr (hb j m hlt hm)
    · left; simp [List.getD_eq_getElem?_getD, hj]
    · left
      have := hb m j hlt hj
      rw [List.count_cons_self] at this
      exact Nat.lt_of_lt_of_le (by omega) (le_getD_set_succ offs m j)
  | (m + 1) :: lengths, offs, k, i + 1, l, symbol, hlen, hb, hi, hp => by
    obtain ⟨hm, hlen⟩ := List.forall_mem_cons.mp hlen
    rw [List.take_succ_cons, ← getD_set_succ_add_count (lengths.take i) offs hm l] at hp ⊢
    rw [placeSymbols, placeSymbols_placed store (by simpa using hlen) (hb.tail hm) hi
      (by rwa [List.length_set]), Nat.add_right_comm k 1 i]
    rfl

/-! ### The slots of all lengths -/

@[simp] theorem length_slotOffsets : ∀ (slot : Nat) (counts : List Nat),
    (slotOffsets slot counts).length = counts.length
  | _, [] => rfl
  | slot, c :: counts => congrArg Nat.succ (length_slotOffsets (slot + c) counts)

theorem le_getD_slotOffsets : ∀ {slot : Nat} {counts : List Nat} {l : Nat}, l < counts.length →
    slot ≤ (slotOffsets slot counts).getD l 0
  | _, _ :: _, 0, _ => Nat.le_refl _
  | slot, c :: _, _ + 1, h =>
    (Nat.le_add_right slot c).trans (le_getD_slotOffsets (Nat.lt_of_succ_lt_succ h))

/-- A length's block ends where a later one begins, or before. -/
theorem getD_slotOffsets_add_le : ∀ {slot : Nat} {counts : List Nat} {i j : Nat}, i < j → j < counts.length →
    (slotOffsets slot counts).getD i 0 + counts.getD i 0 ≤ (slotOffsets slot counts).getD j 0
  | _, _ :: _, 0, _ + 1, _, hj => le_getD_slotOffsets (Nat.lt_of_succ_lt_succ hj)
  | slot, c :: _, _ + 1, _ + 1, hij, hj =>
    getD_slotOffsets_add_le (slot := slot + c) (Nat.lt_of_succ_lt_succ hij) (Nat.lt_of_succ_lt_succ hj)

/-- No block reaches beyond the sum of the counts. -/
theorem getD_slotOffsets_add_le_sum : ∀ {slot : Nat} {counts : List Nat} {l : Nat}, l < counts.length →
    (slotOffsets slot counts).getD l 0 + counts.getD l 0 ≤ slot + counts.sum
  | slot, c :: counts, 0, _ => by simp [slotOffsets]
  | slot, c :: counts, l + 1, h => by
    rw [List.sum_cons, ← Nat.add_assoc]
    exact getD_slotOffsets_add_le_sum (slot := slot + c) (Nat.lt_of_succ_lt_succ h)

/-- Where an entry of joined blocks stands, by its block and its place in it. -/
theorem flatten_slot {α : Type} : ∀ {slot : Nat} {blocks : List (List α)} {p : Nat} {x : α},
    blocks.flatten[p]? = some x → ∃ l block r, blocks[l]? = some block ∧ block[r]? = some x ∧
      slot + p = (slotOffsets slot (blocks.map List.length)).getD l 0 + r
  | slot, block :: blocks, p, x, h => by
    rw [List.flatten_cons, List.getElem?_append] at h
    split at h
    · exact ⟨0, block, p, rfl, h, rfl⟩
    · obtain ⟨l, found, r, hl, hr, e⟩ := flatten_slot (slot := slot + block.length) h
      refine ⟨l + 1, found, r, hl, hr, ?_⟩
      rw [show slot + p = slot + block.length + (p - block.length) by omega, e]
      rfl

theorem getD_histogram_tail (lengths : List Nat) {l : Nat} (hl : l < 16) :
    (histogram lengths).tail.getD l 0 = lengths.count (l + 1) := by
  simp [histogram_tail, List.getD_eq_getElem?_getD, hl, Nat.add_comm]

/-- At first every length has its own block (R155). -/
theorem blocksApart_slotOffsets (lengths : List Nat) :
    BlocksApart lengths (slotOffsets 0 (histogram lengths).tail) := by
  intro i j hij hj
  have hj16 : j < 16 := by simpa using hj
  rw [← getD_histogram_tail lengths (hij.trans hj16)]
  exact getD_slotOffsets_add_le hij (by simpa using hj16)

end Sys2Proof.Machine

/-! SUPPORT. `symbol[]` after `construct`: the coded symbols by length and then by number, and the slots behind
them as they were. -/

namespace Sys2Proof.Machine

/-! ### The symbols in order (R156) -/

/-- The symbols of length `l`, in ascending order. -/
def symbolsOfLength (lengths : List Nat) (l : Nat) : List Nat :=
  (List.range lengths.length).filter fun k => lengths.getD k 0 == l

/-- Among the first `n` symbols. -/
theorem length_filter_range_getD (lengths : List Nat) (l : Nat) : ∀ {n : Nat}, n ≤ lengths.length →
    ((List.range n).filter fun k => lengths.getD k 0 == l).length = (lengths.take n).count l
  | 0, _ => by simp
  | n + 1, hn => by
    have hget : lengths[n]? = some (lengths.getD n 0) := by
      rw [List.getD_eq_getElem _ _ hn, List.getElem?_eq_getElem hn]
    rw [List.range_succ, List.filter_append, List.length_append,
      length_filter_range_getD lengths l (Nat.le_of_succ_le hn), List.take_add_one, List.count_append, hget,
      Option.toList_some, List.count_singleton, List.filter_singleton]
    cases lengths.getD n 0 == l <;> rfl

@[simp] theorem length_symbolsOfLength (lengths : List Nat) (l : Nat) :
    (symbolsOfLength lengths l).length = lengths.count l := by
  rw [symbolsOfLength, length_filter_range_getD lengths l (Nat.le_refl _), List.take_length]

/-- An entry of a filtered range has as many before it as the filter keeps below it. -/
theorem getElem?_filter_range {keep : Nat → Bool} : ∀ {n r x : Nat},
    ((List.range n).filter keep)[r]? = some x →
    x < n ∧ keep x = true ∧ r = ((List.range x).filter keep).length
  | n + 1, r, x, h => by
    rw [List.range_succ, List.filter_append, List.getElem?_append] at h
    split at h
    · obtain ⟨hx, hkeep, hr⟩ := getElem?_filter_range h
      exact ⟨Nat.lt_succ_of_lt hx, hkeep, hr⟩
    · cases hkeep : keep n
      · simp [hkeep] at h
      · obtain ⟨hr, rfl⟩ : r - ((List.range n).filter keep).length = 0 ∧ n = x := by
          simpa [hkeep, List.getElem?_singleton] using h
        exact ⟨Nat.lt_succ_self _, hkeep, by omega⟩

theorem getElem?_symbolsOfLength {lengths : List Nat} {l r x : Nat}
    (h : (symbolsOfLength lengths l)[r]? = some x) :
    lengths[x]? = some l ∧ r = (lengths.take x).count l := by
  obtain ⟨hx, hkeep, hr⟩ := getElem?_filter_range h
  rw [length_filter_range_getD lengths l (Nat.le_of_lt hx)] at hr
  rw [List.getD_eq_getElem _ _ hx, beq_iff_eq] at hkeep
  exact ⟨by rw [List.getElem?_eq_getElem hx, hkeep], hr⟩

theorem orderedSymbols_eq (lengths : List Nat) :
    orderedSymbols lengths = ((List.range' 1 16).map (symbolsOfLength lengths)).flatten := rfl

theorem map_length_symbolsOfLength (lengths : List Nat) :
    ((List.range' 1 16).map (symbolsOfLength lengths)).map List.length = (histogram lengths).tail := by
  rw [histogram_tail, List.map_map]
  exact List.map_congr_left fun l _ => length_symbolsOfLength lengths l

theorem length_orderedSymbols (lengths : List Nat) :
    (orderedSymbols lengths).length = (histogram lengths).tail.sum := by
  rw [orderedSymbols_eq, List.length_flatten, map_length_symbolsOfLength]

/-- Where a symbol stands in the order: in its length's block, behind those of that length before it. -/
theorem getElem?_orderedSymbols {lengths : List Nat} {p k : Nat} (h : (orderedSymbols lengths)[p]? = some k) :
    ∃ l, lengths[k]? = some (l + 1) ∧
      p = (slotOffsets 0 (histogram lengths).tail).getD l 0 + (lengths.take k).count (l + 1) := by
  rw [orderedSymbols_eq] at h
  obtain ⟨l, block, r, hl, hr, hp⟩ := flatten_slot (slot := 0) h
  rw [Nat.zero_add, map_length_symbolsOfLength] at hp
  obtain ⟨j, hj, rfl⟩ : ∃ j, (List.range' 1 16)[l]? = some j ∧ symbolsOfLength lengths j = block := by
    simpa using hl
  obtain rfl : j = l + 1 := by
    obtain ⟨_, hj⟩ := List.getElem?_eq_some_iff.mp hj
    rw [← hj, List.getElem_range', Nat.one_mul, Nat.add_comm]
  obtain ⟨hk, hcount⟩ := getElem?_symbolsOfLength hr
  exact ⟨l, hk, hcount ▸ hp⟩

/-- Counting by length counts everything. -/
theorem sum_histogram {lengths : List Nat} (h : ∀ l ∈ lengths, l ≤ 16) :
    (histogram lengths).sum = lengths.length := by
  have hcard := Multiset.sum_count_eq_card (s := Finset.range 17) (m := (lengths : Multiset Nat))
    fun l hl => Finset.mem_range.mpr (Nat.lt_succ_of_le (h l hl))
  rw [Finset.sum, Finset.range_val, ← Multiset.coe_range, Multiset.map_coe, Multiset.sum_coe] at hcard
  simpa only [Multiset.coe_count, Multiset.coe_card, histogram, hw_maxBits] using hcard

/-- Every symbol but those of length 0 is in the order. -/
theorem length_orderedSymbols_add_count {lengths : List Nat} (h : ∀ l ∈ lengths, l ≤ 16) :
    lengths.count 0 + (orderedSymbols lengths).length = lengths.length := by
  rw [length_orderedSymbols, ← sum_histogram h]
  rfl

/-! ### The table built -/

/-- A length is a 4-bit field (R117). -/
theorem expandLengths_le {list : List Byte} {n l : Nat} (h : l ∈ expandLengths list n) : l ≤ 16 := by
  obtain ⟨b, _, hb⟩ := List.mem_flatMap.mp (List.mem_of_mem_take h)
  rw [List.eq_of_mem_replicate hb]
  exact (Nat.mod_lt _ (by decide)).le

/-- No symbol is placed of an all-zero list. -/
theorem placeSymbols_zeros (store : Nat → Nat) (offs symbol : List Nat) : ∀ (count k : Nat),
    placeSymbols store (List.replicate count 0) k offs symbol = symbol
  | 0, _ => rfl
  | count + 1, k => placeSymbols_zeros store offs symbol count (k + 1)

/-- What a list that is not over-subscribed leaves in `symbol[]`. -/
theorem buildTable_symbol (store : Nat → Nat) (old : HuffmanTable) {lengths : List Nat}
    (hleft : ∀ l ≤ 16, 0 ≤ leftAfter lengths l) :
    (buildTable store old lengths).symbol =
      placeSymbols store lengths 0 (slotOffsets 0 (histogram lengths).tail) old.symbol := by
  rcases buildTable_cases store old lengths with ⟨h0, e⟩ | ⟨_, hneg, _⟩ | ⟨_, _, e⟩
  · rw [histogram_zero, List.count_eq_length] at h0
    rw [e, List.eq_replicate_of_mem fun l hl => (h0 l hl).symm, placeSymbols_zeros]
  · rw [validate_histogram (Nat.le_refl 16) (fun j hj => hleft j hj.le) (.inr rfl)] at hneg
    exact absurd (hleft 16 (Nat.le_refl 16)) (Int.not_le.mpr hneg)
  · rw [e]

section

variable {lengths : List Nat} (h : ∀ l ∈ lengths, l ≤ 16)

include h

/-- The symbols stand in their order (R156). -/
theorem placeSymbols_ordered (store : Nat → Nat) {symbol : List Nat} {p k : Nat}
    (hk : (orderedSymbols lengths)[p]? = some k) (hp : p < symbol.length) :
    (placeSymbols store lengths 0 (slotOffsets 0 (histogram lengths).tail) symbol)[p]? = some (store k) := by
  obtain ⟨l, hl, rfl⟩ := getElem?_orderedSymbols hk
  rw [placeSymbols_placed store (by simpa using h) (blocksApart_slotOffsets lengths) hl hp, Nat.zero_add]

/-- The slots behind them keep their entries (R65, R159 f). -/
theorem placeSymbols_stale (store : Nat → Nat) (symbol : List Nat) {p : Nat}
    (hp : (orderedSymbols lengths).length ≤ p) :
    (placeSymbols store lengths 0 (slotOffsets 0 (histogram lengths).tail) symbol)[p]? = symbol[p]? := by
  refine placeSymbols_outside store (by simpa using h) fun l hl => .inr ?_
  have hl16 : l < 16 := by simpa using hl
  rw [← getD_histogram_tail lengths hl16]
  refine (getD_slotOffsets_add_le_sum (by simpa using hl16)).trans ?_
  rwa [Nat.zero_add, ← length_orderedSymbols]

end

/-- Settles O21: the order is `placeSymbols_ordered`, the slots behind it `placeSymbols_stale`. -/
theorem constructOrdersSymbols : Obligations.ConstructOrdersSymbols := by
  intro a list n s t hs h lengths coded hleft
  have h16 : ∀ l ∈ lengths, l ≤ 16 := fun l => expandLengths_le
  have hcoded : lengths.count 0 + coded = lengths.length := length_orderedSymbols_add_count h16
  have hplaced {j k : Nat} (hj : j < a.size) (hk : (orderedSymbols lengths)[j]? = some k) :
      (t.table a).symbol[j]? = some (storedSymbol a s.fresh k) := by
    rw [table_construct h, buildTable_symbol _ _ hleft]
    exact placeSymbols_ordered h16 _ hk (by rwa [hs a])
  refine ⟨by omega, fun hn => ?_, fun j k hj hk => ?_, ?_⟩
  · have hlen : lengths.length ≤ a.size := (length_expandLengths_le list n.toNat).trans hn
    apply List.ext_getElem?
    intro j
    rw [List.getElem?_take]
    cases hk : (orderedSymbols lengths)[j]? with
    | none => exact if_neg (Nat.not_lt.mpr (List.getElem?_eq_none_iff.mp hk))
    | some k =>
      obtain ⟨hj, -⟩ := List.getElem?_eq_some_iff.mp hk
      obtain ⟨l, hl, -⟩ := getElem?_orderedSymbols hk
      obtain ⟨hklen, -⟩ := List.getElem?_eq_some_iff.mp hl
      rw [if_pos hj, hplaced (by omega) hk, storedSymbol_fits _ (hklen.trans_le hlen)]
  · exact ⟨_, hplaced hj hk, storedSymbol_lt a s.fresh k, storedSymbol_fits s.fresh⟩
  · apply List.ext_getElem?
    intro j
    rw [List.getElem?_drop, List.getElem?_drop, table_construct h, buildTable_symbol _ _ hleft]
    exact placeSymbols_stale h16 _ _ (Nat.le_add_right coded j)

end Sys2Proof.Machine

/-! SUPPORT. `decode` on any table: what the loop of R172 reads of the codes a list describes (R118, R180), and what
it raises. -/

namespace Sys2Proof.Machine

/-! ### The codes of a list (R118) -/

/-- A longer code, cut to a shorter length, lies above every code of that length: it starts with none of them. -/
theorem firstCode_add_count_mul_le (lengths : List Nat) (j : Nat) : ∀ i : Nat,
    (firstCode lengths (j + 1) + lengths.count (j + 1)) * 2 ^ (i + 1) ≤ firstCode lengths (j + 1 + (i + 1))
  | 0 => Nat.le_refl _
  | i + 1 => by
    have ih := firstCode_add_count_mul_le lengths j i
    have hnext : firstCode lengths (j + 1 + (i + 1 + 1)) =
        (firstCode lengths (j + 1 + (i + 1)) + lengths.count (j + 1 + (i + 1))) * 2 := rfl
    rw [hnext, Nat.pow_succ, ← Nat.mul_assoc]
    exact Nat.mul_le_mul_right 2 (ih.trans (Nat.le_add_right _ _))

/-- `left` counts the code values of a length that no code of that length, or a shorter one, uses up. -/
theorem leftAfter_add_codes (lengths : List Nat) : ∀ j : Nat,
    leftAfter lengths (j + 1) + (firstCode lengths (j + 1) + lengths.count (j + 1) : Nat) = 2 ^ (j + 1)
  | 0 => by simp [leftAfter_succ, firstCode]
  | j + 1 => by
    have ih := leftAfter_add_codes lengths j
    have hnext : firstCode lengths (j + 1 + 1) =
        (firstCode lengths (j + 1) + lengths.count (j + 1)) * 2 := rfl
    rw [leftAfter_succ, hnext, pow_succ, ← ih]
    push_cast
    ring

/-- Symbol `k` has a rank among those of its length. -/
theorem count_take_lt {lengths : List Nat} {k l : Nat} (h : lengths[k]? = some l) :
    (lengths.take k).count l < lengths.count l := by
  obtain ⟨hk, hl⟩ := List.getElem?_eq_some_iff.mp h
  have hle := (List.take_sublist (k + 1) lengths).count_le l
  rw [List.take_succ_eq_append_getElem hk, List.count_append, hl, List.count_singleton_self] at hle
  exact hle

/-- The canonical code of a coded symbol lies among those of its length. -/
theorem canonicalCode_bounds {lengths : List Nat} {k l : Nat} (h : lengths[k]? = some l) :
    canonicalCode lengths k = firstCode lengths l + (lengths.take k).count l ∧
      canonicalCode lengths k < firstCode lengths l + lengths.count l := by
  have hcode : canonicalCode lengths k = firstCode lengths l + (lengths.take k).count l := by
    rw [canonicalCode, List.getD_eq_getElem?_getD, h, Option.getD_some]
  rw [hcode]
  exact ⟨rfl, Nat.add_lt_add_left (count_take_lt h) _⟩

/-! ### The loop of R172 on a code -/

/-- The next bit of the pattern, inverted back, brings the next bit of the code (R171). -/
theorem shiftLeft_one_or_codeBit (c m : Nat) :
    (c / 2 ^ (m + 1)) <<< 1 ||| ((c / 2 ^ m % 2 == 0).toNat ^^^ 1) = c / 2 ^ m := by
  have hbit : (c / 2 ^ m % 2 == 0).toNat ^^^ 1 = c / 2 ^ m % 2 := by
    rcases Nat.mod_two_eq_zero_or_one (c / 2 ^ m) with h | h <;> rw [h] <;> rfl
  rw [shiftLeft_one_or_bit, hbit, Nat.pow_succ, ← Nat.div_div_eq_div_mul, Nat.div_add_mod]

/-- With the first bits of code `c` of length `l` read, the loop reads on to the code's end: at every shorter length
the bits are no code, at `l` they are one, and its slot is as far into the length's block as `c` is into its codes. -/
theorem walk_codePattern (symbol : List Nat) (absent : Nat) {lengths : List Nat} {c l : Nat} (rest : Bits)
    (hlo : firstCode lengths l ≤ c) (hhi : c < firstCode lengths l + lengths.count l) :
    ∀ {m r j index : Nat}, j + 1 + m = l → m < r →
    walk symbol absent ((List.range' (j + 1) r).map (lengths.count ·)) ((c / 2 ^ (m + 1)) <<< 1)
      (firstCode lengths (j + 1)) index (codePattern (m + 1) c ++ rest) =
    .ok (symbol.getD ((slotOffsets index ((List.range' (j + 1) r).map (lengths.count ·))).getD m 0 +
      (c - firstCode lengths l)) absent, rest)
  | m, r + 1, j, index, hl, hm => by
    simp only [List.range'_succ, List.map_cons, codePattern, List.cons_append, walk, shiftLeft_one_or_codeBit,
      slotOffsets]
    match m with
    | 0 =>
      obtain rfl : j + 1 = l := hl
      rw [Nat.pow_zero, Nat.div_one, if_pos hhi]
      rfl
    | m + 1 =>
      have hmiss : ¬ c / 2 ^ (m + 1) < firstCode lengths (j + 1) + lengths.count (j + 1) := by
        rw [Nat.not_lt, Nat.le_div_iff_mul_le (Nat.two_pow_pos _)]
        exact (firstCode_add_count_mul_le lengths j m).trans (hl ▸ hlo)
      have hfirst : (firstCode lengths (j + 1) + lengths.count (j + 1)) <<< 1 = firstCode lengths (j + 1 + 1) :=
        Nat.shiftLeft_eq _ 1
      rw [if_neg hmiss, hfirst]
      exact walk_codePattern symbol absent rest hlo hhi (by omega) (Nat.lt_of_succ_lt_succ hm)

/-- The slot of symbol `k` of length `l + 1`: in its length's block, behind the symbols of that length before it
(R155, R156). -/
def symbolSlot (lengths : List Nat) (l k : Nat) : Nat :=
  (slotOffsets 0 (histogram lengths).tail).getD l 0 + (lengths.take k).count (l + 1)

/-- Where no length up to a symbol's own is over-subscribed, the loop answers the entry of the symbol's slot on its
canonical code (R180). -/
theorem walk_canonicalCode (symbol : List Nat) (absent : Nat) {lengths : List Nat} {k l : Nat} (rest : Bits)
    (hk : lengths[k]? = some (l + 1)) (hl : l < 16) (hleft : 0 ≤ leftAfter lengths (l + 1)) :
    walk symbol absent (histogram lengths).tail 0 0 0
      (codePattern (l + 1) (canonicalCode lengths k) ++ rest) =
    .ok (symbol.getD (symbolSlot lengths l k) absent, rest) := by
  obtain ⟨hcode, hhi⟩ := canonicalCode_bounds hk
  have hfits : canonicalCode lengths k < 2 ^ (l + 1) := by
    have := leftAfter_add_codes lengths l
    zify at hhi ⊢
    omega
  have h := walk_codePattern symbol absent (j := 0) (index := 0) rest (hcode ▸ Nat.le_add_right _ _) hhi
    (Nat.add_comm ..) hl
  rw [Nat.div_eq_of_lt hfits, ← histogram_tail] at h
  rwa [hcode, Nat.add_sub_cancel_left, ← hcode] at h

/-! ### The symbol of a code -/

/-- `construct` leaves no negative `left` behind on a list with a code whose status is not negative (R154). -/
theorem leftAfter_nonneg_of_status {store : Nat → Nat} {old : HuffmanTable} {lengths : List Nat}
    (hcoded : lengths.count 0 ≠ lengths.length) (h : 0 ≤ (buildTable store old lengths).status) :
    ∀ l ≤ 16, 0 ≤ leftAfter lengths l := by
  rw [buildTable_status_coded _ _ hcoded] at h
  intro l
  induction l using Nat.strong_induction_on with
  | h l ih =>
    intro hl
    by_contra hneg
    rw [validate_histogram hl (fun j hj => ih j hj (by omega)) (.inl (Int.not_le.mp hneg))] at h
    exact hneg h

/-- A list with a coded symbol is not the all-zero list. -/
theorem count_zero_ne_length {lengths : List Nat} {k l : Nat} (hk : lengths[k]? = some (l + 1)) :
    lengths.count 0 ≠ lengths.length :=
  fun h => Nat.zero_ne_add_one l (List.count_eq_length.mp h _ (List.mem_of_getElem? hk))

section

variable {lengths : List Nat} (h : ∀ l ∈ lengths, l ≤ 16) {k l : Nat} (hk : lengths[k]? = some (l + 1))

include h hk

/-- No slot in use lies beyond as many slots as there are symbols. -/
theorem symbolSlot_lt : symbolSlot lengths l k < lengths.length := by
  have hl : l < 16 := h _ (List.mem_of_getElem? hk)
  have hblock := getD_slotOffsets_add_le_sum (slot := 0) (counts := (histogram lengths).tail) (l := l) (by simpa)
  rw [getD_histogram_tail lengths hl, Nat.zero_add, ← length_orderedSymbols] at hblock
  have hcoded := length_orderedSymbols_add_count h
  have hrank := count_take_lt hk
  unfold symbolSlot
  omega

/-- What a symbol's slot reads after the placement: the symbol's entry, if the memory has the slot (R156; log 26). -/
theorem getD_placeSymbols (store : Nat → Nat) (symbol : List Nat) (absent : Nat) :
    (placeSymbols store lengths 0 (slotOffsets 0 (histogram lengths).tail) symbol).getD (symbolSlot lengths l k)
      absent = if symbolSlot lengths l k < symbol.length then store k else absent := by
  rw [List.getD_eq_getElem?_getD]
  split
  · rename_i hlt
    have hplaced := placeSymbols_placed store (k := 0) (by simpa using h) (blocksApart_slotOffsets lengths) hk hlt
    rw [Nat.zero_add] at hplaced
    exact congrArg (·.getD absent) hplaced
  · rename_i hge
    rw [List.getElem?_eq_none (by rw [length_placeSymbols]; exact Nat.not_lt.mp hge), Option.getD_none]

end

/-- Settles O23: the loop reads the code to its end (`walk_canonicalCode`), and the slot it then reads is the one
`construct` has placed the symbol in (`getD_placeSymbols`). -/
theorem decodeReadsConstructedCode : Obligations.DecodeReadsConstructedCode := by
  intro a list n s t u k l rest hs ht hstatus hu hr _ hl hl0 hbits
  have h16 : ∀ l ∈ expandLengths list n.toNat, l ≤ 16 := fun l => expandLengths_le
  obtain ⟨l, rfl⟩ := Nat.exists_eq_succ_of_ne_zero hl0
  have hk : (expandLengths list n.toNat)[k]? = some (l + 1) := by
    rw [List.getD_eq_getElem?_getD, Option.getD_eq_iff] at hl
    exact hl.resolve_right fun h => hl0 h.2.symm
  have hl16 : l < 16 := h16 _ (List.mem_of_getElem? hk)
  have hleft := leftAfter_nonneg_of_status (count_zero_ne_length hk) (table_construct ht ▸ hstatus)
  have hcount : (u.table a).count = histogram (expandLengths list n.toNat) := by
    rw [hu, table_construct ht, buildTable_count]
  have hentry : (u.table a).symbol.getD (symbolSlot (expandLengths list n.toNat) l k) (absentSlot a u.fresh) =
      if symbolSlot (expandLengths list n.toNat) l k < a.size then storedSymbol a s.fresh k
      else absentSlot a u.fresh := by
    rw [hu, table_construct ht, buildTable_symbol _ _ hleft, getD_placeSymbols h16 hk, hs a]
  have hw := walk_canonicalCode (u.table a).symbol (absentSlot a u.fresh) rest hk hl16 (hleft _ hl16)
  rw [hentry, ← hcount, ← hbits] at hw
  obtain ⟨v, hv, hvb, hvr, hsame, hp, hpos⟩ := decode_of_walk hr (hu ▸ hstatus) hw
  refine ⟨_, hv, fun hn => ?_, ?_, hvb, hvr, ?_, hp, ?_⟩
  · have hlen : (expandLengths list n.toNat).length ≤ a.size := (length_expandLengths_le list _).trans hn
    have hk' := (List.getElem?_eq_some_iff.mp hk).1
    rw [setSym_sym, if_pos ((symbolSlot_lt h16 hk).trans_le hlen), storedSymbol_fits _ (hk'.trans_le hlen)]
  · rw [setSym_sym, BitVec.toNat_ofNat]
    refine (Nat.mod_le _ _).trans_lt ?_
    split
    · exact storedSymbol_lt a _ k
    · exact absentSlot_lt a _
  · show v.spos = _
    rw [hbits, List.length_append, length_codePattern] at hpos
    push_cast at hpos ⊢
    omega
  · rw [setSym_state, hsame]

/-! ### decode on the fixed tables, and on a table without codes -/

/-- `decode` where the bits ahead hold no code: it ends the session with the error of the loop. -/
theorem decode_of_walk_error {a : Alphabet} {s : State} {e : Reject} (hr : ReaderOk s)
    (hstatus : 0 ≤ (s.table a).status)
    (hw : walk (s.table a).symbol (absentSlot a s.fresh) (s.table a).count.tail 0 0 0 s.bits = .error e) :
    ∃ t, exec (.decode a) s = .next t ∧ FailsWith (rejectKind e) s t ∧ t.pushes = s.pushes := by
  have hreads := (decodeWalk_tracks (s.table a).symbol (absentSlot a s.fresh) (s.table a).count.tail 0 0 0
    hr).reads (h := false)
  rw [hw] at hreads
  obtain ⟨t, ht, hkeeps, hp⟩ := hreads
  have hexec : exec (.decode a) s = ((decodeSym a s).bind fun _ s => .ok () s).toOutcome := rfl
  refine ⟨t.raise (rejectKind e), ?_, failsWith_raise _ hkeeps.1.keepsTables, hp⟩
  rw [hexec, decodeSym, if_neg (Int.not_lt.mpr hstatus), ht]
  rfl

/-- The fixed codes are complete, so what finds no code is the end of the input (R174, R176). -/
theorem takeCode_error {a : Alphabet} {bits : Bits} {e : Reject} (h : takeCode a bits = .error e) :
    e = .endOfInput := by
  cases e with
  | endOfInput => rfl
  | invalidCode => exact absurd h (takeCode_ne_invalid a bits)
  | formatError =>
    unfold takeCode at h
    split at h
    · cases h
    · split at h <;> cases h

/-- A code cut short is the end of the input. -/
theorem takeCode_cut_short {a : Alphabet} {bits : Bits} (h : ∀ k < a.size, ¬ codeBits a k <+: bits) :
    takeCode a bits = .error .endOfInput := by
  cases hcode : takeCode a bits with
  | ok p =>
    obtain ⟨hk, hbits⟩ := takeCode_eq_ok.mp hcode
    exact absurd ⟨p.2, hbits.symm⟩ (h p.1 hk)
  | error e => rw [takeCode_error hcode]

/-- Settles O22: on a fixed table the loop is `takeCode`, which reads the code in front, or is cut short. -/
theorem decodeReadsFixedCode : Obligations.DecodeReadsFixedCode := by
  intro a s hr hfixed
  have hstatus : 0 ≤ (s.table a).status := by rw [hfixed a, fixedTable_status]
  have hwalk : walk (s.table a).symbol (absentSlot a s.fresh) (s.table a).count.tail 0 0 0 s.bits =
      takeCode a s.bits := by rw [hfixed a, walk_fixed]
  refine ⟨fun k rest hk hbits => ?_, fun hnone => ?_⟩
  · rw [takeCode_eq_ok.mpr ⟨hk, hbits⟩] at hwalk
    obtain ⟨t, ht, htb, htr, hsame, hp, hpos⟩ := decode_of_walk hr hstatus hwalk
    refine ⟨_, ht, rfl, htb, htr, ?_, hp, ?_⟩
    · show t.spos = _
      rw [hbits, List.length_append] at hpos
      push_cast at hpos
      omega
    · unfold SameButReader at hsame ⊢
      rw [hsame]
      rfl
  · rw [takeCode_cut_short hnone] at hwalk
    exact decode_of_walk_error hr hstatus hwalk

/-- Where there is no code of any length the loop takes a bit for each length, and finds nothing (R178). -/
theorem walk_no_codes (symbol : List Nat) (absent : Nat) : ∀ (n code index : Nat) (bits : Bits),
    walk symbol absent (List.replicate n 0) code 0 index bits =
      .error (if n ≤ bits.length then .invalidCode else .endOfInput)
  | 0, _, _, bits => by rw [if_pos (Nat.zero_le _)]; rfl
  | n + 1, _, _, [] => rfl
  | n + 1, code, index, t :: bits => by
    rw [List.replicate_succ, walk, if_neg (Nat.not_lt_zero _), Nat.zero_shiftLeft, walk_no_codes]
    simp

/-- Settles O25: `walk_no_codes` on the 16 counts of the table. -/
theorem decodeEmptyTable : Obligations.DecodeEmptyTable := by
  intro a s hr hstatus hcount
  have hwalk := walk_no_codes (s.table a).symbol (absentSlot a s.fresh) 16 0 0 s.bits
  rw [← hcount] at hwalk
  obtain ⟨t, ht, hfails, hp⟩ := decode_of_walk_error hr hstatus hwalk
  rw [apply_ite rejectKind] at hfails
  exact ⟨t, ht, hp, hfails⟩

/-- Settles O26: the row listed for a symbol is the one that sets it (`getElem?_codeInstrs`, `exec_code`). -/
theorem codeRowsSetSymbol : Obligations.CodeRowsSetSymbol := by
  intro a k i s hi
  exact ⟨s.setSym k, exec_code (getElem?_codeInstrs.mp hi) s, rfl, rfl⟩

end Sys2Proof.Machine

/-! SUPPORT. Where `InvalidCode` can come from: no stream is read as an invalid code of the fixed tables, and no token
raises it (R104, R176, R252). -/

namespace Sys2Proof.Machine

/-! ### The decoder -/

/-- A step of the decoder answers no error that neither of its parts answers. -/
theorem except_bind_ne {ε α β : Type} {x : Except ε α} {f : α → Except ε β} {e : ε} (hx : x ≠ .error e)
    (hf : ∀ a, f a ≠ .error e) : x.bind f ≠ .error e := by
  cases x with
  | error e' => exact fun h => hx (congrArg Except.error (Except.error.inj h))
  | ok a => exact hf a

theorem takeGroup_ne_invalid (n : Nat) (bits : Bits) : takeGroup n bits ≠ .error .invalidCode := by
  unfold takeGroup
  split <;> simp

theorem decodeHeader_ne_invalid (bits : Bits) : decodeHeader bits ≠ .error .invalidCode := by
  refine except_bind_ne (takeGroup_ne_invalid 8 _) fun lit => ?_
  dsimp only
  split
  · simp
  · refine except_bind_ne (takeGroup_ne_invalid 8 _) fun dict => ?_
    split <;> simp

theorem decodeLiteral_ne_invalid (lit : Byte) (bits : Bits) : decodeLiteral lit bits ≠ .error .invalidCode := by
  unfold decodeLiteral
  split
  · exact except_bind_ne (takeGroup_ne_invalid 8 _) fun _ => by simp
  · exact except_bind_ne (takeCode_ne_invalid .lit _) fun _ => by simp

theorem decodePair_ne_invalid (dict : Byte) (bits : Bits) : decodePair dict bits ≠ .error .invalidCode := by
  refine except_bind_ne (takeCode_ne_invalid .len _) fun _ => ?_
  refine except_bind_ne (takeGroup_ne_invalid _ _) fun _ => ?_
  dsimp only
  split
  · simp
  · refine except_bind_ne (takeCode_ne_invalid .dist _) fun _ => ?_
    refine except_bind_ne (takeGroup_ne_invalid _ _) fun _ => ?_
    split <;> simp

/-- What a running session reads is no invalid code: a header has none, and the fixed codes are complete. -/
theorem decode_ctx_ne_invalid (s : State) (bits : Bits) : decode s.ctx bits ≠ .error .invalidCode := by
  unfold State.ctx
  split
  · match bits with
    | [] => simp [decode]
    | false :: bits => exact decodeLiteral_ne_invalid _ bits
    | true :: bits => exact decodePair_ne_invalid _ bits
  · exact decodeHeader_ne_invalid bits

/-! ### The tokens -/

/-- A token raises what its push or the distance check raises (R253, R254). -/
theorem effect_run_kind {f : Effect} {s t : State} {k : ErrorKind} (h : f.run s = .raised k t) :
    k = .outputError ∨ k = .distanceTooFar := by
  cases f with
  | byte b => exact .inl (putByte_raised h).2.2
  | copy len dist =>
    simp only [Effect.run, backReference] at h
    split at h
    · cases h; exact .inr rfl
    · rcases Res.bind_eq_raised.mp h with h | ⟨_, _, _, h⟩
      · exact .inl (copyLoop_raised _ h)
      · cases h
  | finish =>
    rcases Res.bind_eq_raised.mp h with h | ⟨_, _, _, h⟩
    · exact .inl (flush_raised h).1
    · cases h

/-- A token that raises nothing does not enter `Error`. -/
theorem effect_run_ok_state {f : Effect} {s t : State} (hs : s.state ≠ .error) (h : f.run s = .ok () t) :
    t.state ≠ .error := by
  rcases (effect_run_all f s).ok h with he | ⟨u, _, rfl⟩
  · rw [he]; exact hs
  · simp [State.finish]

/-! ### Every step -/

/-- An error that a running session enters was raised by its fetch, and then the decoder has it too, or by its
token. -/
theorem session_step_ne_invalid {s t : State} (h : Inv s) (hr : s.running = true) (hq : s.req = none)
    (hstep : step s = .next t) (ht : t.state = .error) : t.status ≠ .failed .invalidCode := by
  have hreads := fetch_reads (h.reader hr) (h.tablesFixed hr) (.inl rfl) h.ctx_legal
  rw [step_session hq hr] at hstep
  cases hdec : decode s.ctx s.bits with
  | error e =>
    rw [hdec] at hreads
    obtain ⟨u, hu, _⟩ := hreads
    rw [hu, runFetched_raised] at hstep
    cases hstep
    have he : e ≠ .invalidCode := fun he => decode_ctx_ne_invalid s s.bits (he ▸ hdec)
    cases e with
    | endOfInput | formatError => exact fun hk => by cases hk
    | invalidCode => exact absurd rfl he
  | ok p =>
    obtain ⟨i, rest⟩ := p
    rw [hdec] at hreads
    obtain ⟨u, hu, _, _, hkeeps, _⟩ := hreads
    rw [hu, runFetched_ok] at hstep
    rcases running_iff.mp hr with hs | hs
    · have hctx : s.ctx = .header := by unfold State.ctx; rw [hs]
      obtain ⟨lit, dict, rfl, hl, hd⟩ := decode_header_legal (hctx ▸ hdec)
      rw [exec_hdr_legal hl hd] at hstep
      cases hstep
      cases ht
    · have hctx : s.ctx = .token s.lit s.dict := by unfold State.ctx; rw [hs]
      obtain ⟨f, hf, _⟩ := decode_token_effect (h.header hs).2 (hctx ▸ hdec)
      rw [exec_effect hf] at hstep
      have hus : u.state ≠ .error := by rw [hkeeps.1]; simp [hs]
      rcases Res.toOutcome_eq_next.mp hstep with hok | ⟨k, v, hraised, rfl⟩
      · exact absurd ht (effect_run_ok_state hus hok)
      · intro hk
        cases hk
        rcases effect_run_kind hraised with hk | hk <;> cases hk

/-- Only a running session left to itself enters `Error`. -/
theorem step_enters_error {s t : State} (h : Inv s) (hq : HostOnly s) (hstep : step s = .next t)
    (hs : s.state ≠ .error) (ht : t.state = .error) : s.running = true ∧ s.req = none := by
  rcases hq with hq | hq | hq
  · refine ⟨?_, hq⟩
    by_contra hr
    rw [Bool.not_eq_true] at hr
    cases hb : s.booting with
    | true =>
      obtain ⟨u, hu, _, e⟩ := boot_spec h.sizes
      rw [step_boot (by simp [hq]) (by simp [hq]) hb, hu, Res.toOutcome_ok] at hstep
      cases hstep
      rw [e] at ht
      exact hs ht
    | false =>
      rw [step_quiet hq hr hb] at hstep
      cases hstep
      exact hs ht
  · rw [step_hardReset hq] at hstep
    cases hstep
    cases ht
  · cases hb : s.booting with
    | true => rw [step_start_booting hq hb] at hstep; cases hstep
    | false =>
      rw [step_issue hq rfl hb (.inr rfl)] at hstep
      obtain ⟨_, _, rfl⟩ := exec_start_next hstep
      cases ht

/-- Settles O47: the step that enters `Error` is a running session's (`step_enters_error`), and neither its fetch nor
its token raises `InvalidCode` (`session_step_ne_invalid`). -/
theorem invalidCodeUnreachable : Obligations.InvalidCodeUnreachable := by
  intro s t h hq hstep hs ht
  obtain ⟨hr, hreq⟩ := step_enters_error h hq hstep hs ht
  exact session_step_ne_invalid h hr hreq hstep ht

end Sys2Proof.Machine

/-! SUPPORT. What is pushed and when, of a flush, a wrap, the byte that fills the window and `END`; and what a
copy appends, or where its failed push leaves it (43_sliding_window.md). -/

namespace Sys2Proof.Machine

/-! ### Copies on an accepting sink -/

/-- Settles O33: `copy_history`, and the frame of the copy loop with `mlen` counted down to 0. -/
theorem copyAppendsHistory : Obligations.CopyAppendsHistory := by
  intro len dist s e hh ha h1 h2 h3
  obtain ⟨t, ht, kh, ka, hmlen, _, kf, hframe, kw⟩ := copy_history (len := len) hh ha h1 h2 h3
  have hexec : exec (.copy len dist) s = (copy len dist s).toOutcome := rfl
  refine ⟨t, by rw [hexec, ht, Res.toOutcome_ok], kh, ka, kf, kw, ?_⟩
  unfold SameButWindow at hframe
  rwa [hmlen] at hframe

/-! ### A flush, and what follows it once it is accepted -/

/-- A flush of written bytes followed by `g` is one push of them in order: an accepted one goes on to `g`, a
failed one ends the session before it (R196, R254). -/
theorem flush_then {s : State} {g : State → State} (hg : ∀ u, (g u).bus = u.bus) (h0 : s.next.toNat ≠ 0)
    (hle : s.next.toNat ≤ hw.winSize) (hwritten : ∀ a < s.next.toNat, (s.win.read a).isSome) :
    ∃ t bytes, ((flush s).bind fun _ u => .ok () (g u)).toOutcome = .next t ∧
      bytes.length = s.next.toNat ∧ (∀ a < s.next.toNat, bytes[a]? = s.win.read a) ∧
      t.bus = s.bus ++ [.push bytes s.nextAnswer] ∧
      (s.nextAnswer = false → t = g { s with sink := s.sink.tail, bus := t.bus }) ∧
      (s.nextAnswer = true → FailsWith .outputError s t) := by
  have haddr : ∀ a < s.next.toNat, (0 + a) % hw.winSize = a := fun a ha => by
    rw [Nat.zero_add, Nat.mod_eq_of_lt (Nat.lt_of_lt_of_le ha hle)]
  obtain ⟨bytes, hrun, hlen, hread⟩ := readRun_eq_some (m := s.win) (n := s.next.toNat) (a := 0)
    fun a ha => by rw [haddr a ha]; exact hwritten a ha
  have hbytes : ∀ a < s.next.toNat, bytes[a]? = s.win.read a := fun a ha => by
    rw [← hread a ha, haddr a ha]
  rw [flush_push h0 hrun, push_eq]
  cases hans : s.nextAnswer with
  | true =>
    have hkeeps : KeepsTables s { s with sink := s.sink.tail, bus := s.bus ++ [.push bytes true] } :=
      ⟨fun a => by cases a <;> rfl, rfl⟩
    exact ⟨_, bytes, rfl, hlen, hbytes, rfl, (nomatch ·),
      fun _ => ⟨rfl, rfl, hkeeps.trans (keepsTables_raise _ _)⟩⟩
  | false =>
    refine ⟨_, bytes, rfl, hlen, hbytes, hg _, fun _ => ?_, fun h => by cases h⟩
    rw [hg]

theorem Res.bind_ok_self (r : Res Unit) : (r.bind fun _ u => .ok () u) = r := by cases r <;> rfl

/-- The cursor at 0, as a register and as a number. -/
theorem toNat_next_ne_zero {s : State} (h : s.next ≠ 0) : s.next.toNat ≠ 0 :=
  fun h0 => h (BitVec.eq_of_toNat_eq h0)

/-- Settles O29: nothing buffered is `flush_empty`, else `flush_then` with nothing to follow. -/
theorem flushPushesPrefix : Obligations.FlushPushesPrefix := by
  intro s
  have hexec : exec .flush s = (flush s).toOutcome := rfl
  refine ⟨fun h => ?_, fun h0 hle hwritten => ?_⟩
  · rw [hexec, flush_empty (by rw [h]; rfl), Res.toOutcome_ok]
  · rw [hexec, ← Res.bind_ok_self (flush s)]
    exact flush_then (g := id) (fun _ => rfl) (toNat_next_ne_zero h0) hle hwritten

/-- Settles O30: `flush_then`, and what follows clears `next` and `first_fill`. -/
theorem wrapPushesThenClears : Obligations.WrapPushesThenClears := by
  intro s hn hwritten
  obtain ⟨t, bytes, hflush, hpush⟩ := flush_then (s := s) (g := fun u => { u with next := 0, firstFill := false })
    (fun _ => rfl) (by omega) (by rw [hn]; exact Nat.le_refl _) (by rw [hn]; exact hwritten)
  rw [hn] at hpush
  exact ⟨t, bytes, hflush, hpush⟩

/-- Settles O40: `END` with nothing buffered finishes at once, else `flush_then` with the end to follow. -/
theorem endFinishes : Obligations.EndFinishes := by
  intro s hle hwritten
  have hexec : exec .endMark s = ((flush s).bind fun _ u => .ok () u.finish).toOutcome := rfl
  rw [hexec]
  by_cases h0 : s.next = 0
  · have hz : s.next.toNat = 0 := by rw [h0]; rfl
    rw [flush_empty hz, Res.bind_ok, Res.toOutcome_ok]
    refine ⟨s.finish, [], rfl, keepsTables_finish s, hz.symm, fun a ha => by omega, ?_,
      fun _ => ⟨rfl, rfl⟩, fun hne => absurd h0 hne⟩
    rw [if_pos h0, List.append_nil]
    rfl
  · obtain ⟨t, bytes, hflush, hlen, hbytes, hbus, hok, hfail⟩ :=
      flush_then (g := State.finish) (fun _ => rfl) (toNat_next_ne_zero h0) hle hwritten
    have hkeeps : KeepsTables s t := by
      cases hans : s.nextAnswer with
      | true => exact (hfail hans).2.2
      | false => rw [hok hans]; exact ⟨fun a => by cases a <;> rfl, rfl⟩
    refine ⟨t, bytes, hflush, hkeeps, hlen, hbytes, by rw [if_neg h0]; exact hbus, fun h => ?_, fun _ => hfail⟩
    rw [hok (h.resolve_left h0)]
    exact ⟨rfl, rfl⟩

/-! ### Emitting one byte -/

/-- The window after a store at a cursor inside it. -/
theorem read_stored {s : State} (b : Byte) (h : s.next.toNat < hw.winSize) (a : Nat) :
    (s.stored b).win.read a = if a = s.next.toNat then some b else s.win.read a := by
  show (s.win.write (s.next.toNat % hw.winSize) b).read a = _
  rw [Nat.mod_eq_of_lt h, read_write]

/-- Settles O28: a byte below the last address is stored, and the one at the last address is stored and then
flushed (`flush_then`). -/
theorem SlidingWindow.putByte : Obligations.PutByte := by
  intro i b s hi
  rw [exec_literal hi]
  refine ⟨fun hlt => ?_, fun hlast hwritten => ?_⟩
  · have hin : s.next.toNat < hw.winSize := Nat.lt_succ_of_lt hlt
    have hnext := toNat_next_add hin
    refine ⟨s.stored b, ?_, hnext, read_stored b hin, rfl⟩
    rw [putByte_plain (by rw [hnext, hw_winSize]; omega), Res.toOutcome_ok]
  · have hin : s.next.toNat < hw.winSize := by rw [hlast]; decide
    have hfill : (s.stored b).next.toNat = 4096 := by
      show (s.next + 1).toNat = _
      rw [toNat_next_add hin, hlast]
    have hread := read_stored b hin
    rw [hlast] at hread
    have hall : ∀ a < (s.stored b).next.toNat, ((s.stored b).win.read a).isSome := fun a ha => by
      rw [hread]
      split
      · rfl
      · exact hwritten a (by omega)
    obtain ⟨t, bytes, hflush, hlen, hbytes, hbus, hok, hfail⟩ :=
      flush_then (s := s.stored b) (g := fun u => { u with next := 0, firstFill := false })
        (fun _ => rfl) (by omega) (Nat.le_of_eq hfill) hall
    rw [hfill] at hlen hbytes
    refine ⟨t, bytes, by rw [putByte_fill hfill]; exact hflush, hlen,
      fun a ha => (hbytes a ha).trans (hread a), hbus, fun hans => ?_, fun hans => ?_⟩
    · have ht := hok hans
      have hwin : t.win = (s.stored b).win := by rw [ht]
      exact ⟨fun a => by rw [hwin, hread], by rw [hwin]; exact ht⟩
    · obtain ⟨hstate, hstatus, hkeeps⟩ := hfail hans
      exact ⟨hstate, hstatus, (stored_emitKeeps b s).1.keepsTables.trans hkeeps⟩

/-! ### What a copy appends -/

/-- After the byte `dist` back has been appended, the byte `dist` back of the next position is the next of the last
`dist` bytes, taken in a circle (R199). -/
theorem getD_append_source {dist : Nat} {e : List Byte} (h1 : 1 ≤ dist) (h2 : dist ≤ e.length) (i : Nat) :
    (e ++ [e.getD (e.length - dist) 0]).getD (e.length + 1 - dist + i % dist) 0 =
      e.getD (e.length - dist + (i + 1) % dist) 0 := by
  have hlt : i % dist < dist := Nat.mod_lt i h1
  by_cases hwrap : i % dist + 1 = dist
  · have hnext : (i + 1) % dist = 0 := by rw [← Nat.mod_add_mod, hwrap, Nat.mod_self]
    rw [hnext, show e.length + 1 - dist + i % dist = e.length by omega,
      List.getD_append_right _ _ _ _ (Nat.le_refl _), Nat.sub_self]
    rfl
  · have hnext : (i + 1) % dist = i % dist + 1 := by rw [← Nat.mod_add_mod, Nat.mod_eq_of_lt (by omega)]
    rw [hnext, show e.length + 1 - dist + i % dist = e.length - dist + (i % dist + 1) by omega,
      List.getD_append _ _ _ _ (by omega)]

/-- Settles O34, by induction on the length: each byte appended moves the circle of `dist` bytes on by one
(`getD_append_source`). -/
theorem expandRepeats : Obligations.ExpandRepeats := by
  intro len
  induction len with
  | zero => intro dist e _ _; exact (List.append_nil e).symm
  | succ n ih =>
    intro dist e h1 h2
    rw [expand, ih dist _ h1 (by rw [List.length_append]; omega), List.range_succ_eq_map, List.map_cons,
      List.map_map, Nat.zero_mod, Nat.add_zero, List.append_assoc, List.singleton_append, List.length_append,
      List.length_singleton]
    congr 2
    exact List.map_congr_left fun i _ => getD_append_source h1 h2 i

/-! ### Copies whose wrap is rejected -/

/-- The byte that fills the window on a sink that fails the push (R193, R197, R254). -/
theorem putByte_fill_rejected {s : State} {e : List Byte} (b : Byte) (h : History s e)
    (hans : s.nextAnswer = true) (hfill : (s.next + 1).toNat = hw.winSize) :
    ∃ t, putByte b s = .raised .outputError t ∧
      t.bus = s.bus ++ [.push ((e ++ [b]).drop (e.length / hw.winSize * hw.winSize)) true] := by
  have hne : (s.stored b).next.toNat ≠ 0 := by
    show (s.next + 1).toNat ≠ 0
    rw [hfill]
    decide
  have hans' : (s.stored b).nextAnswer = true := hans
  refine ⟨_, by rw [putByte_fill hfill, flush_push hne (stored_run b h hfill), if_pos hans', Res.bind_raised], ?_⟩
  rw [push_eq, hans']
  rfl

/-- The moves of a copy that reaches the end of the window on a sink that fails the push: the moves after it are not
made (R195, R254). -/
theorem copyLoop_rejected : ∀ (n : Nat) {s : State} {e : List Byte}, History s e → s.nextAnswer = true →
    1 ≤ s.mdist.toNat → s.mdist.toNat ≤ e.length → s.mdist.toNat ≤ hw.winSize →
    hw.winSize ≤ s.next.toNat + n →
    ∃ t, copyLoop n s = .raised .outputError t ∧
      t.bus = s.bus ++ [.push ((expand (hw.winSize - s.next.toNat) s.mdist.toNat e).drop
        (e.length / hw.winSize * hw.winSize)) true] := by
  intro n
  induction n with
  | zero =>
    intro s e h _ _ _ _ hreach
    have := h.next
    have : e.length % hw.winSize < hw.winSize := Nat.mod_lt _ (by decide)
    omega
  | succ n ih =>
    intro s e h hans h1 h2 h3 hreach
    have hn := h.next
    have hnext := h.next_add
    have hlt : e.length % hw.winSize < hw.winSize := Nat.mod_lt _ (by decide)
    let b := e.getD (e.length - s.mdist.toNat) 0
    have hexpand : expand (hw.winSize - s.next.toNat) s.mdist.toNat e =
        expand (hw.winSize - (s.next + 1).toNat) s.mdist.toNat (e ++ [b]) := by
      rw [show hw.winSize - s.next.toNat = hw.winSize - (s.next + 1).toNat + 1 by omega]
      rfl
    rw [copyLoop, readWin_source h h1 h2 h3, Res.bind_ok, hexpand]
    by_cases hfill : (s.next + 1).toNat = hw.winSize
    · obtain ⟨t, ht, hbus⟩ := putByte_fill_rejected b h hans hfill
      refine ⟨t, by rw [ht, Res.bind_raised], ?_⟩
      rw [hfill, Nat.sub_self]
      exact hbus
    · have hput := putByte_plain (b := b) hfill
      have hh := (putByte_ok_history h hput).1
      have hlen : (e ++ [b]).length = e.length + 1 := by simp
      have hwindow : (e ++ [b]).length / hw.winSize = e.length / hw.winSize := by
        rw [hlen]
        rw [hw_winSize] at *
        omega
      obtain ⟨t, ht, hbus⟩ := ih (s := { s.stored b with mlen := BitVec.ofNat 10 n }) (e := e ++ [b])
        ⟨hh.next, hh.fill, hh.recent⟩ hans h1 (by rw [hlen]; exact Nat.le_succ_of_le h2) h3
        (by show hw.winSize ≤ (s.next + 1).toNat + n; omega)
      rw [hwindow] at hbus
      exact ⟨t, by rw [hput, Res.bind_ok]; exact ht, hbus⟩

/-- The distance check lets a copy pass that reaches no further than the bytes emitted (R220). -/
theorem History.not_tooFar {s : State} {e : List Byte} (h : History s e) {dist : BitVec 13}
    (hd : dist.toNat ≤ e.length) : (s.firstFill && decide (s.next < dist)) = false := by
  rw [h.fill, ← Bool.decide_and, decide_eq_false_iff_not, BitVec.lt_def, h.next]
  rintro ⟨hfirst, hlt⟩
  rw [Nat.mod_eq_of_lt hfirst] at hlt
  omega

/-- A back-reference that reaches no further than the bytes emitted is its copy, with the operands dead
afterwards (R217, R218, R220). -/
theorem backReference_near {s : State} {e : List Byte} (h : History s e) (len : BitVec 10) {dist : BitVec 13}
    (hd : dist.toNat ≤ e.length) :
    backReference len dist s = (copy len dist s).bind fun _ u => .ok () u.forgetMatch :=
  if_neg (Bool.eq_false_iff.mp (h.not_tooFar hd))

/-- Settles O35: the copy is abandoned (`copyLoop_rejected`), whichever of the three instructions makes it. -/
theorem copyStopsAtFailedPush : Obligations.CopyStopsAtFailedPush := by
  intro i len dist s e hi hh hans h1 h2 h3 hreach
  obtain ⟨u, hu, hbus⟩ := copyLoop_rejected len.toNat (s := { s with mlen := len, mdist := dist }) (e := e)
    ⟨hh.next, hh.fill, hh.recent⟩ hans h1 h2 h3 hreach
  have hcopy : copy len dist s = .raised .outputError u := hu
  have hkeeps : KeepsTables s u := ((copy_all len dist s).raised hcopy).1.keepsTables
  have hback : backReference len dist s = .raised .outputError u := by
    rw [backReference_near hh len h2, hcopy, Res.bind_raised]
  have hexec : exec i s = .next (u.raise .outputError) := by
    rcases hi with rfl | rfl | ⟨rfl, rfl⟩
    · show (copy len dist s).toOutcome = _
      rw [hcopy, Res.toOutcome_raised]
    · show (backReference len dist s).toOutcome = _
      rw [hback, Res.toOutcome_raised]
    · show (backReference 2 dist s).toOutcome = _
      rw [hback, Res.toOutcome_raised]
  exact ⟨_, _, hexec, ⟨rfl, rfl, hkeeps.trans (keepsTables_raise u _)⟩, hbus, rfl⟩

end Sys2Proof.Machine

/-! SUPPORT. The step of a running session in the decoder's terms: the instruction the stream ahead decodes to is run
at a state past its bits, and every instruction takes at least one bit. -/

namespace Sys2Proof.Machine

/-- Where the stream ahead decodes, the step runs the instruction past its bits (R213, R230, R24). -/
theorem session_step_ok {s : State} {i : Instr} {rest : Bits} (hq : s.req = none) (hr : s.running = true)
    (hreader : ReaderOk s) (ht : TablesFixed s) (hl : s.ctx.legal = true)
    (hdec : decode s.ctx s.bits = .ok (i, rest)) :
    ∃ u, step s = exec i u ∧ u.bits = rest ∧ ReaderOk u ∧ FetchKeeps (isHeader s.ctx) s u ∧
      u.pushes = s.pushes ∧ u.spos = s.spos + ((s.bits.length : Int) - rest.length) := by
  have hreads := fetch_reads hreader ht (.inl rfl) hl
  rw [hdec] at hreads
  obtain ⟨u, hu, hbits, hur, hk, hp, hpos⟩ := hreads
  refine ⟨u, by rw [step_session hq hr, hu, runFetched_ok], hbits, hur, hk, hp, ?_⟩
  dsimp only at hpos
  omega

/-- Where the stream ahead does not decode, the step raises the decoder's error (R256, R263). -/
theorem session_step_error {s : State} {e : Reject} (hq : s.req = none) (hr : s.running = true)
    (hreader : ReaderOk s) (ht : TablesFixed s) (hl : s.ctx.legal = true)
    (hdec : decode s.ctx s.bits = .error e) :
    ∃ u, step s = .next (u.raise (rejectKind e)) ∧ FetchKeeps (isHeader s.ctx) s u ∧ u.pushes = s.pushes := by
  have hreads := fetch_reads hreader ht (.inl rfl) hl
  rw [hdec] at hreads
  obtain ⟨u, hu, hk, hp⟩ := hreads
  exact ⟨u, by rw [step_session hq hr, hu, runFetched_raised], hk, hp⟩

theorem ctx_of_readHeader {s : State} (h : s.state = .readHeader) : s.ctx = .header := by
  unfold State.ctx; rw [h]

theorem ctx_of_decodeLoop {s : State} (h : s.state = .decodeLoop) : s.ctx = .token s.lit s.dict := by
  unfold State.ctx; rw [h]

/-- Settles O6: `session_step_ok`, and in the decode loop the fetch keeps the header fields. -/
theorem stepRunsDecodedInstruction : Obligations.StepRunsDecodedInstruction := by
  intro s i rest hq hr hreader ht hl hdec
  obtain ⟨u, hu, hbits, hur, hk, hp, hpos⟩ := session_step_ok hq hr hreader ht hl hdec
  refine ⟨u, hu, hbits, hur, hk.1, fun hs => hk.2 ?_, hp, hpos⟩
  rw [ctx_of_decodeLoop hs]
  rfl

/-- Every code has bits (R107, R109, R113). -/
theorem codeBits_length_pos (a : Alphabet) : ∀ k < a.size, 0 < (codeBits a k).length := by
  cases a <;> decide +kernel

/-- Every instruction the stream can hold has bits (R91, R94 to R98). -/
theorem encode_length_pos {ctx : Ctx} (hl : ctx.legal = true) {i : Instr} (h : ctx.holds i = true) :
    0 < (encode ctx i).length := by
  cases ctx with
  | header =>
    obtain ⟨lit, dict, _, rfl⟩ := holds_header.mp h
    exact Nat.succ_pos _
  | token lit dict =>
    rcases (holds_token (Bool.and_eq_true_iff.mp hl).2).mp h with ⟨b, rfl⟩ | rfl | ⟨len, dist, hok, rfl⟩
    · rw [encode_literal]; exact Nat.succ_pos _
    · exact Nat.succ_pos _
    · rw [encode_backRef _ dist hok.lt_endLen]; exact Nat.succ_pos _
  | code a =>
    obtain ⟨k, hk⟩ := holds_code.mp h
    rw [encode_code hk]
    exact codeBits_length_pos a k (codeSym_lt hk)

/-- An instruction decoded leaves fewer bits ahead. -/
theorem decode_length_lt {ctx : Ctx} (hl : ctx.legal = true) {bits rest : Bits} {i : Instr}
    (h : decode ctx bits = .ok (i, rest)) : rest.length < bits.length := by
  obtain ⟨hholds, rfl⟩ := (decode_eq_ok hl).mp h
  have := encode_length_pos hl hholds
  rw [List.length_append]
  omega

/-- What a step of a running session does, by what the stream ahead decodes to (R212, R213, R230): it raises the
decoder's error, it takes a header's fields, or it runs a token at a state past the token's bits. -/
theorem session_step_decoded {s : State} (h : Inv s) (hr : s.running = true) (hq : s.req = none) :
    (∃ e u, decode s.ctx s.bits = .error e ∧ step s = .next (u.raise (rejectKind e)) ∧ ReadOnly true s u) ∨
    (∃ lit dict u, decode s.ctx s.bits = .ok (.hdr lit dict, u.bits) ∧
      step s = .next { u with lit := lit, dict := dict, state := .decodeLoop } ∧ ReadOnly true s u) ∨
    (∃ i f u, decode s.ctx s.bits = .ok (i, u.bits) ∧ effectOf i = some f ∧ f.legal ∧
      step s = (f.run u).toOutcome ∧ s.state = .decodeLoop ∧ ReadOnly false s u) := by
  have hreader := h.reader hr
  have hfixed := h.tablesFixed hr
  cases hdec : decode s.ctx s.bits with
  | error e =>
    obtain ⟨u, hu, hk, hp⟩ := session_step_error hq hr hreader hfixed h.ctx_legal hdec
    exact .inl ⟨e, u, rfl, hu, hk.weaken, hp⟩
  | ok p =>
    obtain ⟨i, rest⟩ := p
    obtain ⟨u, hu, rfl, _, hk, hp, _⟩ := session_step_ok hq hr hreader hfixed h.ctx_legal hdec
    rcases running_iff.mp hr with hs | hs
    · obtain ⟨lit, dict, rfl, hl, hd⟩ := decode_header_legal (ctx_of_readHeader hs ▸ hdec)
      exact .inr (.inl ⟨lit, dict, u, rfl, hu.trans (exec_hdr_legal hl hd u), hk.weaken, hp⟩)
    · have hctx := ctx_of_decodeLoop hs
      obtain ⟨f, hf, hlegal⟩ := decode_token_effect (h.header hs).2 (hctx ▸ hdec)
      rw [hctx] at hk
      exact .inr (.inr ⟨i, f, u, rfl, hf, hlegal, hu.trans (exec_effect hf u), hs, hk, hp⟩)

/-- Emitting bytes reads nothing of the stream. -/
theorem SameButEmit.bits {s t : State} (h : SameButEmit s t) : t.bits = s.bits := by rw [h]; rfl

/-- A step of a running session ends it, or leaves fewer bits ahead (R234). -/
theorem session_step_progress {s : State} (h : Inv s) (hr : s.running = true) (hq : s.req = none) :
    ∃ t, step s = .next t ∧ Inv t ∧ t.req = none ∧
      ((t.state = .done ∨ t.state = .error) ∨ (t.running = true ∧ t.bits.length < s.bits.length)) := by
  obtain ⟨t, ht, hinv, hreq⟩ := session_step_inv h hr hq
  refine ⟨t, ht, hinv, hreq, ?_⟩
  rcases session_step_decoded h hr hq with ⟨e, u, _, hstep, _⟩ | ⟨lit, dict, u, hdec, hstep, _⟩ |
    ⟨i, f, u, hdec, _, _, hstep, _, hread⟩ <;> rw [hstep] at ht
  · cases ht
    exact .inl (.inr rfl)
  · cases ht
    exact .inr ⟨rfl, decode_length_lt h.ctx_legal hdec⟩
  · have hlt := decode_length_lt h.ctx_legal hdec
    rcases Res.toOutcome_eq_next.mp ht with hok | ⟨k, v, _, rfl⟩
    · rcases (effect_run_all f u).ok hok with he | ⟨v, _, rfl⟩
      · refine .inr ⟨?_, by rwa [he.bits]⟩
        rw [he]
        exact hread.1.1 ▸ hr
      · exact .inl (.inl rfl)
    · exact .inl (.inr rfl)

/-- A session with at most `n` bits ahead ends within `n + 1` steps. -/
theorem session_ends : ∀ (n : Nat) {s : State}, Inv s → s.running = true → s.req = none → s.bits.length ≤ n →
    ∃ k t, k ≤ n + 1 ∧ Sys2Proof.core.run k s = .next t ∧ (t.state = .done ∨ t.state = .error) := by
  intro n
  induction n with
  | zero =>
    intro s h hr hq hn
    obtain ⟨t, ht, _, _, hend | ⟨_, hlt⟩⟩ := session_step_progress h hr hq
    · exact ⟨1, t, Nat.le_refl 1, run_succ_eq_next.mpr ⟨t, ht, rfl⟩, hend⟩
    · omega
  | succ n ih =>
    intro s h hr hq hn
    obtain ⟨t, ht, hinv, hreq, hend | ⟨hrun, hlt⟩⟩ := session_step_progress h hr hq
    · exact ⟨1, t, by omega, run_succ_eq_next.mpr ⟨t, ht, rfl⟩, hend⟩
    · obtain ⟨k, u, hk, hu, hend⟩ := ih hinv hrun hreq (by omega)
      exact ⟨k + 1, u, by omega, run_succ_eq_next.mpr ⟨t, ht, hu⟩, hend⟩

/-- Settles O48: each step ends the session or leaves fewer bits ahead (`session_ends`). -/
theorem sessionsEnd : Obligations.SessionsEnd :=
  fun s h hr hq => session_ends s.bits.length h hr hq (Nat.le_refl _)

end Sys2Proof.Machine

/-! SUPPORT. A whole session on an accepting sink: step by step it does what the decoder and an unbounded output say
(R200, R202, R230). -/

namespace Sys2Proof.Machine

/-! ### The session without the machine -/

theorem sessionResult_error {fuel : Nat} {ctx : Ctx} {bits : Bits} {e : List Byte} {r : Reject}
    (h : decode ctx bits = .error r) :
    sessionResult (fuel + 1) ctx bits e = (e, .failed (rejectKind r)) := by
  rw [sessionResult, h]

theorem sessionResult_hdr {fuel : Nat} {ctx : Ctx} {bits rest : Bits} {e : List Byte} {lit dict : Byte}
    (h : decode ctx bits = .ok (.hdr lit dict, rest)) :
    sessionResult (fuel + 1) ctx bits e = sessionResult fuel (.token lit dict) rest e := by
  rw [sessionResult, h]

/-- A token on an unbounded output: the bytes emitted after it, or the status it ends the session with (R214 to R220,
R223). -/
def Effect.apply : Effect → List Byte → Except Status (List Byte)
  | .byte b, e => .ok (e ++ [b])
  | .copy len dist, e =>
    if e.length < dist.toNat then .error (.failed .distanceTooFar) else .ok (expand len.toNat dist.toNat e)
  | .finish, _ => .error .success

/-- The session without the machine goes on with a token's bytes, or ends with its status. -/
theorem sessionResult_token {fuel : Nat} {ctx : Ctx} {bits rest : Bits} {e : List Byte} {i : Instr} {f : Effect}
    (h : decode ctx bits = .ok (i, rest)) (hf : effectOf i = some f) :
    sessionResult (fuel + 1) ctx bits e = match f.apply e with
      | .ok e' => sessionResult fuel ctx rest e'
      | .error status => (e, status) := by
  rw [sessionResult, h]
  cases i <;> cases hf
  case match2 | matchN =>
    simp only [Effect.apply]
    split <;> rfl
  all_goals rfl

/-! ### How a session ends -/

/-- From `s` the session ends within `n` steps as `r` says: with its status, and with what of its bytes is delivered
output after `o`. -/
def EndsAs (s : State) (n : Nat) (o : List Byte) (r : List Byte × Status) : Prop :=
  ∃ k t, k ≤ n ∧ Sys2Proof.core.run k s = .next t ∧ t.status = r.2 ∧
    t.state = (if r.2 = .success then .done else .error) ∧ t.out = o ++ delivered r

theorem EndsAs.step {s t : State} {n : Nat} {o : List Byte} {r : List Byte × Status} (hstep : step s = .next t)
    (h : EndsAs t n o r) : EndsAs s (n + 1) o r := by
  obtain ⟨k, u, hk, hu, hend⟩ := h
  exact ⟨k + 1, u, Nat.succ_le_succ hk, run_succ_eq_next.mpr ⟨t, hstep, hu⟩, hend⟩

/-- An error delivers the whole windows of the bytes emitted (R202, R258). -/
theorem EndsAs.raise {u : State} {k : ErrorKind} {o e : List Byte} (n : Nat) (hf : Flushed u o e) :
    EndsAs (u.raise k) n o (e, .failed k) :=
  ⟨0, _, Nat.zero_le n, rfl, rfl, rfl, hf⟩

/-- Success delivers all of them (R225). -/
theorem EndsAs.finish {u : State} {o e : List Byte} (n : Nat) (ho : u.out = o ++ e) :
    EndsAs u.finish n o (e, .success) :=
  ⟨0, _, Nat.zero_le n, rfl, rfl, rfl, ho⟩

/-! ### Tokens on an accepting sink -/

/-- A flush on an accepting sink is accepted. -/
theorem flush_accepted {s : State} {e : List Byte} (hh : History s e) (ha : s.sinkAccepts) :
    ∃ t, flush s = .ok () t := by
  by_cases h0 : s.next.toNat = 0
  · exact ⟨s, flush_empty h0⟩
  · exact ⟨_, by rw [flush_push h0 hh.window_run, sinkAccepts_next ha, if_neg Bool.false_ne_true]⟩

/-- A back-reference further than `next` during first fill raises before it copies (R220, R253). -/
theorem backReference_far {s : State} {len : BitVec 10} {dist : BitVec 13} (hf : s.firstFill = true)
    (hd : s.next.toNat < dist.toNat) :
    backReference len dist s = .raised .distanceTooFar { s with mlen := len, mdist := dist } := by
  have hfar : ({ s with mlen := len, mdist := dist } : State).distanceTooFar = true :=
    Bool.and_eq_true_iff.mpr ⟨hf, decide_eq_true (BitVec.lt_def.mpr hd)⟩
  exact if_pos hfar

/-- A distance past all the bytes emitted is one past `next` during first fill (R43 c). -/
theorem History.tooFar {s : State} {e : List Byte} (h : History s e) {dist : BitVec 13}
    (hd : dist.toNat ≤ hw.winSize) (hfar : e.length < dist.toNat) :
    s.firstFill = true ∧ s.next.toNat < dist.toNat := by
  have hlt : e.length < hw.winSize := Nat.lt_of_lt_of_le hfar hd
  exact ⟨by rw [h.fill]; exact decide_eq_true hlt, by rwa [h.next, Nat.mod_eq_of_lt hlt]⟩

/-- A back-reference within the bytes emitted appends its copy (R217, R218, R220). -/
theorem backReference_history {s : State} {e : List Byte} {len : BitVec 10} {dist : BitVec 13} (h : History s e)
    (ha : s.sinkAccepts) (h1 : 1 ≤ dist.toNat) (h2 : dist.toNat ≤ e.length) (h3 : dist.toNat ≤ hw.winSize) :
    ∃ t, backReference len dist s = .ok () t ∧ History t (expand len.toNat dist.toNat e) ∧ t.sinkAccepts ∧
      (∀ o, Flushed s o e → Flushed t o (expand len.toNat dist.toNat e)) ∧
      ∀ a, (∀ i < len.toNat, a ≠ (s.next.toNat + i) % hw.winSize) → t.win.read a = s.win.read a := by
  obtain ⟨t, ht, kh, ka, _, _, kf, _, kw⟩ := copy_history (len := len) h ha h1 h2 h3
  exact ⟨t.forgetMatch, by rw [backReference_near h len h2, ht, Res.bind_ok], ⟨kh.next, kh.fill, kh.recent⟩,
    ka, kf, kw⟩

/-- What a token of a session on an accepting sink does to the bytes emitted, as `Effect.apply` says it: it answers a
value and the new bytes are in order, or it ends the session with its status and what is then delivered. -/
def Effect.Applies (f : Effect) (s : State) (o e : List Byte) : Except Status (List Byte) → Prop
  | .ok e' => ∃ t, f.run s = .ok () t ∧ SameButEmit s t ∧ History t e' ∧ Flushed t o e' ∧ t.sinkAccepts
  | .error status => ∃ t, (f.run s).toOutcome = .next t ∧ ∀ n, EndsAs t n o (e, status)

theorem effect_applies {f : Effect} {s : State} {o e : List Byte} (hl : f.legal) (hh : History s e)
    (hf : Flushed s o e) (ha : s.sinkAccepts) : f.Applies s o e (f.apply e) := by
  cases f with
  | byte b =>
    obtain ⟨t, ht, kh, ka, kf⟩ := putByte_history b hh ha
    exact ⟨t, ht, ((putByte_all b s).ok ht).1, kh, kf o hf, ka⟩
  | copy len dist =>
    obtain ⟨h1, h3⟩ := hl
    by_cases hfar : e.length < dist.toNat
    · obtain ⟨hfill, hnext⟩ := hh.tooFar h3 hfar
      rw [Effect.apply, if_pos hfar]
      refine ⟨({ s with mlen := len, mdist := dist } : State).raise .distanceTooFar, ?_, fun n => .raise n hf⟩
      rw [Effect.run, backReference_far hfill hnext, Res.toOutcome_raised]
    · obtain ⟨t, ht, kh, ka, kf, _⟩ := backReference_history (len := len) hh ha h1 (Nat.le_of_not_lt hfar) h3
      rw [Effect.apply, if_neg hfar]
      exact ⟨t, ht, ((backReference_all len dist s).ok ht).1, kh, kf o hf, ka⟩
  | finish =>
    obtain ⟨t, ht⟩ := flush_accepted hh ha
    exact ⟨_, by rw [Effect.run, ht, Res.bind_ok, Res.toOutcome_ok], fun n => .finish n (flush_delivers hh hf ht)⟩

/-! ### Sessions -/

/-- A running session on an accepting sink that has emitted `e`, the whole windows of it delivered after `o`. -/
structure Emitting (s : State) (o e : List Byte) : Prop where
  inv : Inv s
  running : s.running = true
  noRequest : s.req = none
  history : History s e
  flushed : Flushed s o e
  accepts : s.sinkAccepts

/-- A session that goes on to `t`, with the new bytes in order there. -/
theorem Emitting.next {s t : State} {o e e' : List Byte} (h : Emitting s o e) (hstep : step s = .next t)
    (hr : t.running = true) (hh : History t e') (hf : Flushed t o e') (ha : t.sinkAccepts) : Emitting t o e' := by
  obtain ⟨t', ht', hinv, hreq⟩ := session_step_inv h.inv h.running h.noRequest
  rw [hstep] at ht'
  cases ht'
  exact ⟨hinv, hr, hreq, hh, hf, ha⟩

theorem ReadOnly.sinkAccepts {h : Bool} {s t : State} (hr : ReadOnly h s t) (ha : s.sinkAccepts) :
    t.sinkAccepts := by
  rw [hr.1.1]; exact ha

/-- A token read and then run, where it goes on: the session stays in its context, past the token's bits. -/
theorem ctx_of_token {s u t : State} (hu : ReadOnly false s u) (ht : SameButEmit u t) : t.ctx = s.ctx := by
  obtain ⟨hlit, hdict⟩ := hu.1.2 rfl
  have hstate : u.state = s.state := by rw [hu.1.1]
  rw [ht]
  unfold State.ctx
  rw [← hlit, ← hdict, ← hstate]

/-- A session does what the decoder and an unbounded output say, in as many steps as it has bits ahead and one
more. -/
theorem session_endsAs : ∀ (fuel : Nat) {s : State} {o e : List Byte}, Emitting s o e → s.bits.length < fuel →
    EndsAs s fuel o (sessionResult fuel s.ctx s.bits e) := by
  intro fuel
  induction fuel with
  | zero => intro s o e _ hn; omega
  | succ fuel ih =>
    intro s o e h hn
    rcases session_step_decoded h.inv h.running h.noRequest with ⟨r, u, hdec, hstep, hread⟩ |
      ⟨lit, dict, u, hdec, hstep, hread⟩ | ⟨i, f, u, hdec, hf, hlegal, hstep, hs, hread⟩
    · rw [sessionResult_error hdec]
      exact .step hstep (.raise fuel (hread.flushed h.flushed))
    · have hlt := decode_length_lt h.inv.ctx_legal hdec
      have hh := hread.history h.history
      rw [sessionResult_hdr hdec]
      exact .step hstep (ih (h.next hstep rfl ⟨hh.next, hh.fill, hh.recent⟩ (hread.flushed h.flushed)
        (hread.sinkAccepts h.accepts)) (Nat.lt_of_lt_of_le hlt (Nat.le_of_lt_succ hn)))
    · have hlt := decode_length_lt h.inv.ctx_legal hdec
      have happly := effect_applies hlegal (hread.history h.history) (hread.flushed h.flushed)
        (hread.sinkAccepts h.accepts)
      rw [sessionResult_token hdec hf]
      cases hresult : f.apply e with
      | ok e' =>
        rw [hresult] at happly
        obtain ⟨t, ht, he, kh, kf, ka⟩ := happly
        have hnext : step s = .next t := by rw [hstep, ht, Res.toOutcome_ok]
        have hrun : t.running = true := by rw [he, hread.1.1]; exact h.running
        have hrest := ih (h.next hnext hrun kh kf ka) (by rw [he.bits]; omega)
        rw [ctx_of_token hread he, he.bits] at hrest
        exact .step hnext hrest
      | error status =>
        rw [hresult] at happly
        obtain ⟨t, ht, hend⟩ := happly
        exact .step (hstep.trans ht) (hend fuel)

/-! ### From `start` -/

/-- `start` outside a session with the tables built (R211, R232). -/
theorem step_start {s : State} (hr : s.running = false) (hb : s.tablesBuilt = true)
    (hq : s.req = some (.issue .start)) : step s = .next ({ s with req := none } : State).newSession := by
  rw [step_issue hq rfl (by unfold State.booting; rw [hb]; simp) (.inr rfl)]
  exact exec_start_idle hr hb

/-- A new session has emitted nothing, and has the whole input ahead (R211). -/
theorem emitting_newSession {s : State} (h : Inv s) (hr : s.running = false) (hb : s.tablesBuilt = true)
    (hq : s.req = some (.issue .start)) (ha : s.sinkAccepts) :
    Emitting ({ s with req := none } : State).newSession s.out [] := by
  obtain ⟨t, ht, hinv, hreq⟩ := start_step_inv h hr hb hq
  rw [step_start hr hb hq] at ht
  cases ht
  exact ⟨hinv, rfl, hreq, ⟨rfl, rfl, fun p hp => absurd hp (Nat.not_lt_zero p)⟩, (List.append_nil _).symm, ha⟩

/-- Settles O54: `start` creates a session that has the whole input ahead, and it ends as `session_endsAs` says. -/
theorem sessionComputesResult : Obligations.SessionComputesResult := by
  intro s h hr hb hq ha
  have hbits : ({ s with req := none } : State).newSession.bits = (upcoming s.src).flatMap byteBits := rfl
  have hlen := length_flatMap_byteBits (upcoming s.src)
  have hend := session_endsAs (8 * (upcoming s.src).length + 1) (emitting_newSession h hr hb hq ha)
    (by rw [hbits, hlen]; exact Nat.lt_succ_self _)
  exact EndsAs.step (step_start hr hb hq) hend

end Sys2Proof.Machine

/-! SUPPORT. The header step and the back-references (44_stream_decoder.md). -/

namespace Sys2Proof.Machine

/-! ### The header (R212) -/

theorem legalLit_eq_false {lit : Byte} (h : 1 < lit.toNat) : legalLit lit = false :=
  decide_eq_false (Nat.not_le_of_lt h)

theorem legalLit_eq_true {lit : Byte} (h : lit.toNat ≤ 1) : legalLit lit = true := decide_eq_true h

theorem legalDict_eq_true {dict : Byte} (hlo : 4 ≤ dict.toNat) (hhi : dict.toNat ≤ 6) : legalDict dict = true :=
  Bool.and_eq_true_iff.mpr ⟨decide_eq_true hlo, decide_eq_true hhi⟩

theorem legalDict_eq_false {dict : Byte} (h : dict.toNat < 4 ∨ 6 < dict.toNat) : legalDict dict = false := by
  unfold legalDict
  rcases h with h | h
  · rw [decide_eq_false (by rw [hw_dictMin]; omega), Bool.false_and]
  · rw [decide_eq_false (p := dict.toNat ≤ hw.dictMax) (by rw [hw_dictMax]; omega), Bool.and_false]

/-- Settles O36: with both fields legal `HDR` runs to its end (`exec_hdr_legal`). -/
theorem hdrAccepts : Obligations.HdrAccepts :=
  fun _ _ s hlit hlo hhi => exec_hdr_legal (legalLit_eq_true hlit) (legalDict_eq_true hlo hhi) s

theorem takeGroup_short {n : Nat} {bits : Bits} (h : bits.length < n) :
    takeGroup n bits = .error .endOfInput := if_pos h

/-- The header without a first byte (R134). -/
theorem decodeHeader_no_lit {bits : Bits} (h : bits.length < 8) : decodeHeader bits = .error .endOfInput := by
  rw [decodeHeader, takeGroup_short h]; rfl

/-- The header after its first byte: the flag is checked before the selector is read (D6). -/
theorem decodeHeader_lit (lit : Byte) (bits : Bits) : decodeHeader (byteBits lit ++ bits) =
    if legalLit lit then
      (takeGroup 8 bits).bind fun p => if legalDict (BitVec.ofNat 8 p.1) then
        .ok (.hdr lit (BitVec.ofNat 8 p.1), p.2) else .error .formatError
    else .error .formatError := by
  rw [decodeHeader, takeGroup_byteBits]
  cases hl : legalLit lit with
  | false => simp [bind, Except.bind, hl]
  | true =>
    cases hg : takeGroup 8 bits with
    | error e => simp [bind, Except.bind, hl, hg]
    | ok p => cases hd : legalDict (BitVec.ofNat 8 p.1) <;> simp [bind, Except.bind, hl, hg, hd]

/-- The header after both bytes. -/
theorem decodeHeader_lit_dict (lit dict : Byte) (bits : Bits) :
    decodeHeader (byteBits lit ++ (byteBits dict ++ bits)) =
      if legalLit lit then if legalDict dict then .ok (.hdr lit dict, bits) else .error .formatError
      else .error .formatError := by
  rw [decodeHeader_lit, takeGroup_byteBits]
  simp [Except.bind]

/-- How the header step from `s` ends in `t`, by what the bits ahead decode to. -/
def HeaderEnds (s t : State) : Except Reject (Instr × Bits) → Prop
  | .error e => FailsWith (rejectKind e) s t
  | .ok (i, rest) => i = .hdr t.lit t.dict ∧ t.state = .decodeLoop ∧ t.spos = s.spos + 16 ∧ t.bits = rest

/-- The header step does what the decoder says of the bits ahead, and pushes nothing. -/
theorem header_step {s : State} (hs : s.state = .readHeader) (hq : s.req = none) (hr : ReaderOk s) :
    ∃ t, step s = .next t ∧ t.pushes = s.pushes ∧ HeaderEnds s t (decodeHeader s.bits) := by
  have hreads := fetchHeader_reads hr
  have hstep : step s = runFetched (fetchHeader s) := by
    rw [step_session hq (running_iff.mpr (.inl hs)), ctx_of_readHeader hs]; rfl
  rw [hstep]
  cases hdec : decodeHeader s.bits with
  | error e =>
    rw [hdec] at hreads
    obtain ⟨u, hu, hk, hp⟩ := hreads
    exact ⟨u.raise (rejectKind e), by rw [hu, runFetched_raised], hp, failsWith_raise _ hk.1.keepsTables⟩
  | ok p =>
    obtain ⟨i, rest⟩ := p
    rw [hdec] at hreads
    obtain ⟨u, hu, hbits, _, _, hp, hpos⟩ := hreads
    obtain ⟨lit, dict, ⟨hl, hd⟩, rfl, hahead⟩ := decodeHeader_eq_ok.mp hdec
    refine ⟨{ u with lit := lit, dict := dict, state := .decodeLoop },
      by rw [hu, runFetched_ok]; exact exec_hdr_legal hl hd u, hp, rfl, rfl, ?_, hbits⟩
    have hlen : s.bits.length = 16 + rest.length := by
      rw [hahead, List.length_append, List.length_append, length_byteBits, length_byteBits]
    show u.spos = _
    dsimp only at hpos
    omega

/-- Settles O37: the header step is the decoder's reading of the bits ahead (`header_step`), which checks one byte
after the other. -/
theorem headerStep : Obligations.HeaderStep := by
  intro s hs hq hr
  obtain ⟨t, ht, hp, hend⟩ := header_step hs hq hr
  refine ⟨t, ht, hp, fun hlen => ?_, fun b0 rest hbits => ?_⟩
  · rw [decodeHeader_no_lit hlen] at hend
    exact hend
  · rw [hbits] at hend
    refine ⟨fun h0 => ?_, fun h0 hlen => ?_, fun h0 b1 rest' hrest => ?_⟩
    · rw [decodeHeader_lit, legalLit_eq_false h0] at hend
      exact hend
    · rw [decodeHeader_lit, if_pos (legalLit_eq_true h0), takeGroup_short hlen] at hend
      exact hend
    · rw [hrest, decodeHeader_lit_dict, if_pos (legalLit_eq_true h0)] at hend
      refine ⟨fun h1 => ?_, fun hlo hhi => ?_⟩
      · rw [legalDict_eq_false h1] at hend
        exact hend
      · rw [if_pos (legalDict_eq_true hlo hhi)] at hend
        obtain ⟨hfields, hstate, hpos, hahead⟩ := hend
        injection hfields with hlit hdict
        exact ⟨hstate, hlit.symm, hdict.symm, hpos, hahead⟩

/-! ### Back-references (R217, R218, R220) -/

/-- Settles O38: the copy joins the history (`backReference_history`), and the frame is that of emitting bytes. -/
theorem matchCopies : Obligations.MatchCopies := by
  intro i len dist s e hi hh ha h1 h2 h3
  obtain ⟨t, ht, kh, ka, kf, kw⟩ := backReference_history (len := len) hh ha h1 h2 h3
  have hexec : exec i s = (backReference len dist s).toOutcome := by
    rcases hi with rfl | ⟨rfl, rfl⟩ <;> rfl
  exact ⟨t, by rw [hexec, ht, Res.toOutcome_ok], kh, ka, kf, kw, ((backReference_all len dist s).ok ht).1⟩

/-- Settles O39: the distance check comes before the copy (`backReference_far`). -/
theorem matchTooFar : Obligations.MatchTooFar := by
  intro i len dist s hi hf hd
  obtain ⟨len', hexec⟩ : ∃ len', exec i s = (backReference len' dist s).toOutcome := by
    rcases hi with rfl | rfl
    · exact ⟨len, rfl⟩
    · exact ⟨2, rfl⟩
  have hkeeps : KeepsTables s { s with mlen := len', mdist := dist } := ⟨fun a => by cases a <;> rfl, rfl⟩
  exact ⟨_, by rw [hexec, backReference_far hf hd, Res.toOutcome_raised], failsWith_raise _ hkeeps, rfl⟩

end Sys2Proof.Machine

/-! SUPPORT. `start`, what runs outside a session, and the transitions of the FSM in any state (R211, R232, R260). -/

namespace Sys2Proof.Machine

variable {α β : Type}

/-! ### start, and a core with no session -/

/-- Settles O4: `start` creates the session (`exec_start_idle`), and both refusals stand in `exec` and in the step. -/
theorem startCreatesSession : Obligations.StartCreatesSession := by
  intro s
  have hbuiltless {u : State} (hr : u.running = false) (hb : u.tablesBuilt = false) :
      exec .start u = .refused .startBeforeTables := by
    show execStart u = _
    rw [execStart, hr, hb]; rfl
  refine ⟨fun hr hb => ?_, fun hr => if_pos hr, hbuiltless, step_start_running, fun hq hr hb => ?_⟩
  · exact ⟨_, exec_start_idle hr hb, rfl, rfl, rfl, rfl, rfl, rfl, rfl, rfl, rfl, keepsTables_newSession s,
      rfl, rfl, rfl, rfl, rfl⟩
  · cases hboot : s.booting with
    | true => exact step_start_booting hq hboot
    | false =>
      rw [step_issue hq rfl hboot (.inr rfl)]
      exact hbuiltless hr hb

theorem booting_eq_false {s : State} (h : s.state = .idle → s.tablesBuilt = true) : s.booting = false := by
  unfold State.booting
  by_cases hs : s.state = .idle
  · rw [h hs]; simp
  · simp [hs]

/-- Settles O9: no request, no boot build and no session (`step_quiet`). -/
theorem nothingRunsOutsideSession : Obligations.NothingRunsOutsideSession :=
  fun _ hq hr hb => step_quiet hq hr (booting_eq_false hb)

theorem ended_iff {s : State} : s.ended = true ↔ s.state = .done ∨ s.state = .error := by
  unfold State.ended
  cases s.state <;> simp

theorem running_of_ended {s : State} (h : s.state = .done ∨ s.state = .error) : s.running = false := by
  unfold State.running
  rcases h with h | h <;> rw [h]

/-- Settles O55: another request is taken off (`step_ended`), and `start` creates a session. -/
theorem nothingRunsAfterTheEnd : Obligations.NothingRunsAfterTheEnd := by
  intro s r hs hq
  refine ⟨fun hreset hstart => step_ended hq hreset hstart (ended_iff.mpr hs), ?_⟩
  rintro rfl hb
  exact ⟨_, step_start (running_of_ended hs) hb hq, rfl, rfl⟩

/-! ### Which errors a read raises -/

/-- Where an operation raises, its error kind has a property. -/
def Res.RaisesOnly (P : ErrorKind → Prop) : Res α → Prop
  | .raised k _ => P k
  | _ => True

theorem Res.RaisesOnly.bind {P : ErrorKind → Prop} {r : Res α} {f : α → State → Res β} (h : r.RaisesOnly P)
    (hf : ∀ a t, (f a t).RaisesOnly P) : (r.bind f).RaisesOnly P := by
  cases r with
  | ok a t => exact hf a t
  | raised k t => exact h
  | fault x => trivial
  | refused x => trivial

theorem Res.RaisesOnly.raised {P : ErrorKind → Prop} {r : Res α} {k : ErrorKind} {t : State}
    (h : r.RaisesOnly P) (e : r = .raised k t) : P k := by rw [e] at h; exact h

/-- An operation that raises nothing, run as an instruction, leaves what it leaves with a value. -/
theorem Res.RaisesOnly.next {P : State → Prop} {r : Res Unit} {t : State} (h : r.RaisesOnly fun _ => False)
    (ha : r.All P) (e : r.toOutcome = .next t) : P t := by
  rcases Res.toOutcome_eq_next.mp e with hok | ⟨k, u, hu, _⟩
  · exact ha.ok hok
  · exact (h.raised hu).elim

section Reads

variable {P : ErrorKind → Prop}

/-- Reading bytes raises `EndOfInput` only (R132, R134). -/
theorem fetchByte_raises (hend : P .endOfInput) (s : State) : (fetchByte s).RaisesOnly P := by
  unfold fetchByte
  split
  · trivial
  · split
    · exact hend
    · trivial

theorem refill_raises (hend : P .endOfInput) (n : Nat) : ∀ (fuel : Nat) (val : BitVec 23) (s : State),
    (refill fuel n val s).RaisesOnly P
  | 0, _, _ => trivial
  | fuel + 1, val, s => by
    unfold refill
    split
    · exact (fetchByte_raises hend s).bind fun _ _ => refill_raises hend n fuel _ _
    · trivial

theorem takeBits_raises (hend : P .endOfInput) (n : Nat) (s : State) : (takeBits n s).RaisesOnly P := by
  unfold takeBits
  split
  · trivial
  · exact (refill_raises hend n 2 _ s).bind fun _ _ => trivial

theorem readByteField_raises (hend : P .endOfInput) (s : State) : (readByteField s).RaisesOnly P :=
  (takeBits_raises hend 8 s).bind fun _ _ => trivial

/-- A decode raises `InvalidCode` besides (R173). -/
theorem decodeWalk_raises (hend : P .endOfInput) (hcode : P .invalidCode) (symbol : List Nat) (absent : Nat) :
    ∀ (counts : List Nat) (code firstc index : Nat) (s : State),
      (decodeWalk symbol absent counts code firstc index s).RaisesOnly P
  | [], _, _, _, _ => hcode
  | _ :: counts, _, _, _, s => (takeBits_raises hend 1 s).bind fun _ t => by
    dsimp only
    split
    · trivial
    · exact decodeWalk_raises hend hcode symbol absent counts _ _ _ t

theorem decodeSym_raises (hend : P .endOfInput) (hcode : P .invalidCode) (a : Alphabet) (s : State) :
    (decodeSym a s).RaisesOnly P := by
  unfold decodeSym
  split
  · trivial
  · exact (decodeWalk_raises hend hcode _ _ _ _ _ _ s).bind fun _ _ => trivial

/-- The header raises `FormatError` besides `EndOfInput` (R212). -/
theorem fetchHeader_raises (hend : P .endOfInput) (hformat : P .formatError) (s : State) :
    (fetchHeader s).RaisesOnly P := by
  have hlit (b : Byte) (t : State) : (headerLit b t).RaisesOnly P := by
    unfold headerLit
    dsimp only
    split
    · trivial
    · exact hformat
  have hdict (b : Byte) (t : State) : (headerDict b t).RaisesOnly P := by
    unfold headerDict
    dsimp only
    split
    · trivial
    · exact hformat
  exact (readByteField_raises hend s).bind fun lit t => (hlit lit t).bind fun _ t =>
    (readByteField_raises hend t).bind fun dict t => (hdict dict t).bind fun _ _ => trivial

/-- A token raises `EndOfInput` or `InvalidCode` while it is read (R263). -/
theorem fetchToken_raises (hend : P .endOfInput) (hcode : P .invalidCode) (s : State) :
    (fetchToken s).RaisesOnly P := by
  refine (takeBits_raises hend 1 s).bind fun c t => ?_
  split
  · unfold fetchLiteral
    split
    · exact (decodeSym_raises hend hcode .lit t).bind fun _ _ => trivial
    · exact (readByteField_raises hend t).bind fun _ _ => trivial
  · have hlen : (readLength t).RaisesOnly P := (decodeSym_raises hend hcode .len t).bind fun k t =>
      (takeBits_raises hend _ t).bind fun _ _ => trivial
    refine hlen.bind fun len t => ?_
    split
    · trivial
    · have hdist (x : Nat) : (readDistance x t).RaisesOnly P := (decodeSym_raises hend hcode .dist t).bind
        fun _ t => (takeBits_raises hend x t).bind fun _ _ => trivial
      refine (hdist _).bind fun dist t => ?_
      split <;> trivial

end Reads

/-! ### The transitions (R232) -/

/-- What running what was fetched came from. -/
theorem runFetched_eq_next {r : Res Instr} {t : State} : runFetched r = .next t ↔
    (∃ i u, r = .ok i u ∧ exec i u = .next t) ∨ ∃ k u, r = .raised k u ∧ t = u.raise k := by
  cases r <;> simp [eq_comm]

/-- What a header fetch answers is a header (R212). -/
theorem fetchHeader_ok {s t : State} {i : Instr} (h : fetchHeader s = .ok i t) : ∃ lit dict, i = .hdr lit dict := by
  obtain ⟨lit, _, _, h⟩ := Res.bind_eq_ok.mp h
  obtain ⟨_, _, _, h⟩ := Res.bind_eq_ok.mp h
  obtain ⟨dict, _, _, h⟩ := Res.bind_eq_ok.mp h
  obtain ⟨_, _, _, h⟩ := Res.bind_eq_ok.mp h
  cases h
  exact ⟨lit, dict, rfl⟩

/-- From `ReadHeader` a step goes to `DecodeLoop`, or to `Error` with one of the header's kinds. -/
theorem readHeader_transition {s t : State} (hs : s.state = .readHeader) (hq : s.req = none)
    (h : step s = .next t) : t.state = .decodeLoop ∨
      (t.state = .error ∧ (t.status = .failed .formatError ∨ t.status = .failed .endOfInput)) := by
  rw [step_session hq (running_iff.mpr (.inl hs)), ctx_of_readHeader hs] at h
  have hfetch : runFetched (fetchHeader s) = .next t := h
  rcases runFetched_eq_next.mp hfetch with ⟨i, u, hu, hexec⟩ | ⟨k, u, hu, rfl⟩
  · obtain ⟨lit, dict, rfl⟩ := fetchHeader_ok hu
    by_cases hlegal : legalLit lit = true → legalDict dict = false
    · obtain ⟨v, _, e⟩ := exec_hdr_illegal hlegal u
      rw [e] at hexec
      cases hexec
      exact .inr ⟨rfl, .inl rfl⟩
    · rw [Classical.not_imp, Bool.not_eq_false] at hlegal
      rw [exec_hdr_legal hlegal.1 hlegal.2] at hexec
      cases hexec
      exact .inl rfl
  · exact .inr ⟨rfl, (fetchHeader_raises (P := fun k => Status.failed k = .failed .formatError ∨
      Status.failed k = .failed .endOfInput) (.inr rfl) (.inl rfl) s).raised hu⟩

/-- From `DecodeLoop` a step stays there, or goes to `Done`, or to `Error` with one of a token's kinds. -/
theorem decodeLoop_transition {s t : State} (hs : s.state = .decodeLoop) (hq : s.req = none)
    (h : step s = .next t) : t.state = .decodeLoop ∨ (t.state = .done ∧ t.status = .success) ∨
      (t.state = .error ∧ (t.status = .failed .endOfInput ∨ t.status = .failed .invalidCode ∨
        t.status = .failed .distanceTooFar ∨ t.status = .failed .outputError)) := by
  rw [step_session hq (running_iff.mpr (.inr hs)), ctx_of_decodeLoop hs] at h
  have hfetch : runFetched (fetchToken s) = .next t := h
  rcases runFetched_eq_next.mp hfetch with ⟨i, u, hu, hexec⟩ | ⟨k, u, hu, rfl⟩
  · obtain ⟨f, hf⟩ := fetchToken_effect hu
    have hread : ReadOnly false s u := (fetch_all (.token s.lit s.dict) s).ok hu
    rw [exec_effect hf] at hexec
    rcases Res.toOutcome_eq_next.mp hexec with hok | ⟨k, v, hv, rfl⟩
    · rcases (effect_run_all f u).ok hok with he | ⟨v, _, rfl⟩
      · rw [he, hread.1.1]
        exact .inl hs
      · exact .inr (.inl ⟨rfl, rfl⟩)
    · refine .inr (.inr ⟨rfl, .inr (.inr ?_)⟩)
      rcases effect_run_kind hv with rfl | rfl
      · exact .inr rfl
      · exact .inl rfl
  · have hk : k = .endOfInput ∨ k = .invalidCode :=
      (fetchToken_raises (P := fun k => k = .endOfInput ∨ k = .invalidCode) (.inl rfl) (.inr rfl) s).raised hu
    refine .inr (.inr ⟨rfl, ?_⟩)
    rcases hk with rfl | rfl
    · exact .inl rfl
    · exact .inr (.inl rfl)

theorem constructInto_state (a : Alphabet) (list : List Byte) (n : Nat) {s : State} {q : FsmState}
    (h : s.state = q) : (constructInto a list n s).All fun t => t.state = q := by
  rcases constructInto_cases a list n s with ⟨_, e⟩ | ⟨_, e⟩ <;> rw [e]
  · trivial
  · cases a <;> exact h

theorem constructInto_raises (a : Alphabet) (list : List Byte) (n : Nat) (s : State) :
    (constructInto a list n s).RaisesOnly fun _ => False := by
  rcases constructInto_cases a list n s with ⟨_, e⟩ | ⟨_, e⟩ <;> rw [e] <;> trivial

/-- The boot build raises nothing, and stays in the state it is in, whatever the table memories held (R292). -/
theorem boot_state {s t : State} (h : (boot s).toOutcome = .next t) : t.state = s.state := by
  rw [boot, if_pos configOk_hw] at h
  refine Res.RaisesOnly.next (P := fun t => t.state = s.state) ?_ ?_ h
  · refine (constructInto_raises ..).bind fun _ t => ?_
    refine (constructInto_raises ..).bind fun _ t => ?_
    exact (constructInto_raises ..).bind fun _ t => trivial
  · refine (constructInto_state _ _ _ rfl).bind fun _ t ht => ?_
    refine (constructInto_state _ _ _ ht).bind fun _ t ht => ?_
    exact (constructInto_state _ _ _ ht).bind fun _ t ht => ht

/-- A `start` that is answered by a next state begins a session (R211). -/
theorem start_transition {s t : State} (hq : s.req = some (.issue .start)) (h : step s = .next t) :
    s.running = false ∧ t.state = .readHeader := by
  cases hb : s.booting with
  | true => rw [step_start_booting hq hb] at h; cases h
  | false =>
    rw [step_issue hq rfl hb (.inr rfl)] at h
    obtain ⟨hr, _, rfl⟩ := exec_start_next h
    exact ⟨hr, rfl⟩

/-- Settles O42: by what waits, and by the state where nothing does. -/
theorem fsmTransitions : Obligations.FsmTransitions := by
  intro s t hhost h
  refine ⟨fun hq => ?_, fun hreset => ?_⟩
  · rw [step_hardReset hq] at h
    cases h
    exact ⟨rfl, rfl⟩
  · rcases hhost with hq | hq | hq
    · refine ⟨fun hs => .inl ?_, fun hs => readHeader_transition hs hq h, fun hs => decodeLoop_transition hs hq h,
        fun hs => .inl ?_⟩
      · cases hb : s.booting with
        | true =>
          rw [step_boot hreset (by rw [hq]; simp) hb] at h
          exact (boot_state h).trans hs
        | false =>
          rw [step_quiet hq (by unfold State.running; rw [hs]) hb] at h
          cases h
          exact hs
      · rw [step_ended_none (ended_iff.mpr hs) hq] at h
        cases h
        rfl
    · exact absurd hq hreset
    · obtain ⟨hr, ht⟩ := start_transition hq h
      have hidle : ¬ (s.state = .readHeader ∨ s.state = .decodeLoop) := fun hs =>
        Bool.eq_false_iff.mp hr (running_iff.mpr hs)
      exact ⟨fun _ => .inr ⟨ht, hq⟩, fun hs => (hidle (.inl hs)).elim, fun hs => (hidle (.inr hs)).elim,
        fun _ => .inr ⟨ht, hq⟩⟩

end Sys2Proof.Machine

/-! SUPPORT. The decode errors of a running session (60_exceptions.md). -/

namespace Sys2Proof.Machine

/-- Settles O7: the step raises the decoder's error (`session_step_error`); reading the stream up to there kept the
tables and pushed nothing, and `raise` adds no transaction. -/
theorem stepTakesDecodeError : Obligations.StepTakesDecodeError := by
  intro s e hq hr hreader ht hl hdec
  obtain ⟨u, hstep, hkeeps, hpushes⟩ := session_step_error hq hr hreader ht hl hdec
  exact ⟨u.raise (rejectKind e), hstep, failsWith_raise _ hkeeps.1.keepsTables, hpushes⟩

end Sys2Proof.Machine

/-! SUPPORT. A session inherits nothing but the tables: two cores that begin one on the same input and the same sink
answers go the same way (R16, R261, R291). What each has in its window is tied to the bytes the session has emitted, so
that what an earlier session left there is never read. -/

namespace Sys2Proof.Machine

/-! ### Emitting bytes in two cores -/

/-- Two cores whose sinks will answer alike, and that have made the same pushes, after `p` in the one and `p'` in the
other. -/
def PushedAlike (p p' : List (List Byte × Bool)) (s s' : State) : Prop :=
  s'.sink = s.sink ∧ ∃ q, s.pushes = p ++ q ∧ s'.pushes = p' ++ q

theorem PushedAlike.nextAnswer {p p' : List (List Byte × Bool)} {s s' : State} (h : PushedAlike p p' s s') :
    s'.nextAnswer = s.nextAnswer := by
  unfold State.nextAnswer; rw [h.1]

theorem ReadOnly.sink {h : Bool} {s t : State} (hr : ReadOnly h s t) : t.sink = s.sink := by rw [hr.1.1]

/-- Reading the stream pushes nothing. -/
theorem PushedAlike.read {p p' : List (List Byte × Bool)} {h h' : Bool} {s s' u u' : State}
    (hp : PushedAlike p p' s s') (hu : ReadOnly h s u) (hu' : ReadOnly h' s' u') : PushedAlike p p' u u' := by
  obtain ⟨hsink, q, hq, hq'⟩ := hp
  exact ⟨hu'.sink.trans (hsink.trans hu.sink.symm), q, hu.2.trans hq, hu'.2.trans hq'⟩

theorem PushedAlike.push {p p' : List (List Byte × Bool)} {s s' : State} (h : PushedAlike p p' s s')
    (bytes : List Byte) : PushedAlike p p' (push bytes s).2 (push bytes s').2 := by
  have hans := h.nextAnswer
  obtain ⟨hsink, q, hq, hq'⟩ := h
  refine ⟨by simp only [push_eq, hsink], q ++ [(bytes, s.nextAnswer)], ?_, ?_⟩
  · rw [push_pushes, hq, List.append_assoc]
  · rw [push_pushes, hans, hq', List.append_assoc]

/-- Two states with one history have their cursors at one place. -/
theorem History.next_eq {s s' : State} {e : List Byte} (h : History s e) (h' : History s' e) : s'.next = s.next :=
  BitVec.eq_of_toNat_eq (h'.next.trans h.next.symm)

section

variable {p p' : List (List Byte × Bool)} {s s' : State} {e : List Byte}

/-- A flush of the same bytes is answered alike (R196). -/
theorem flush_pushedAlike {bytes : List Byte} (hp : PushedAlike p p' s s') (hn : s'.next = s.next)
    (hrun : s.win.readRun 0 s.next.toNat = some bytes) (hrun' : s'.win.readRun 0 s'.next.toNat = some bytes) :
    (flush s).Alike (PushedAlike p p') (flush s') := by
  by_cases h0 : s.next.toNat = 0
  · rw [flush_empty h0, flush_empty (hn ▸ h0)]
    exact ⟨s', rfl, hp⟩
  · rw [flush_push h0 hrun, flush_push (hn ▸ h0) hrun', hp.nextAnswer]
    exact .ite ⟨_, rfl, hp.push bytes⟩ ⟨_, rfl, hp.push bytes⟩

/-- A byte emitted after the same bytes (R193, R197). -/
theorem putByte_pushedAlike (b : Byte) (hp : PushedAlike p p' s s') (h : History s e) (h' : History s' e) :
    (putByte b s).Alike (PushedAlike p p') (putByte b s') := by
  have hn := h.next_eq h'
  have hstored : PushedAlike p p' (s.stored b) (s'.stored b) := hp
  by_cases hfill : (s.next + 1).toNat = hw.winSize
  · have hfill' : (s'.next + 1).toNat = hw.winSize := by rw [hn]; exact hfill
    rw [putByte_fill hfill, putByte_fill hfill']
    exact (flush_pushedAlike hstored (congrArg (· + 1) hn) (stored_run b h hfill) (stored_run b h' hfill')).bind
      fun _ _ _ ht => ⟨_, rfl, ht⟩
  · rw [putByte_plain hfill, putByte_plain (by rw [hn]; exact hfill)]
    exact ⟨_, rfl, hstored⟩

/-- The moves of a copy after the same bytes read the same bytes (R76, R195). -/
theorem copyLoop_pushedAlike : ∀ (n : Nat) {s s' : State} {e : List Byte}, PushedAlike p p' s s' → History s e →
    History s' e → s'.mdist = s.mdist → 1 ≤ s.mdist.toNat → s.mdist.toNat ≤ e.length →
    s.mdist.toNat ≤ hw.winSize → (copyLoop n s).Alike (PushedAlike p p') (copyLoop n s')
  | 0, _, _, _, hp, _, _, _, _, _, _ => ⟨_, rfl, hp⟩
  | n + 1, s, s', e, hp, h, h', hd, h1, h2, h3 => by
    have hread' := readWin_source h' (hd ▸ h1) (hd ▸ h2) (hd ▸ h3)
    rw [hd] at hread'
    rw [copyLoop, copyLoop, readWin_source h h1 h2 h3, hread', Res.bind_ok, Res.bind_ok]
    have hput := putByte_pushedAlike (e.getD (e.length - s.mdist.toNat) 0) hp h h'
    rcases putByte_history_cases (e.getD (e.length - s.mdist.toNat) 0) h with ⟨u, hu, hh, _⟩ | ⟨_, _, u, hu, _⟩ <;>
      rw [hu] at hput <;> obtain ⟨u', hu', hpu⟩ := hput <;> rw [hu, hu']
    · have hh' := (putByte_ok_history h' hu').1
      have hdu : u.mdist = s.mdist := by rw [putByte_frame hu]
      have hdu' : u'.mdist = s.mdist := by rw [putByte_frame hu']; exact hd
      refine copyLoop_pushedAlike n (s := { u with mlen := BitVec.ofNat 10 n })
        (s' := { u' with mlen := BitVec.ofNat 10 n }) hpu ⟨hh.next, hh.fill, hh.recent⟩
        ⟨hh'.next, hh'.fill, hh'.recent⟩ (hdu'.trans hdu.symm) ?_ ?_ ?_ <;> dsimp only <;> rw [hdu]
      · exact h1
      · rw [List.length_append]; omega
      · exact h3
    · exact ⟨u', rfl, hpu⟩

/-- A back-reference after the same bytes is too far in both cores, or copies the same bytes (R217, R218, R220). -/
theorem backReference_pushedAlike {len : BitVec 10} {dist : BitVec 13} (hp : PushedAlike p p' s s') (h : History s e)
    (h' : History s' e) (h1 : 1 ≤ dist.toNat) (h3 : dist.toNat ≤ hw.winSize) :
    (backReference len dist s).Alike (PushedAlike p p') (backReference len dist s') := by
  by_cases hfar : e.length < dist.toNat
  · obtain ⟨hf, hd⟩ := h.tooFar h3 hfar
    obtain ⟨hf', hd'⟩ := h'.tooFar h3 hfar
    rw [backReference_far hf hd, backReference_far hf' hd']
    exact ⟨_, rfl, hp⟩
  · have h2 := Nat.le_of_not_lt hfar
    rw [backReference_near h len h2, backReference_near h' len h2]
    have hcopy : (copy len dist s).Alike (PushedAlike p p') (copy len dist s') :=
      copyLoop_pushedAlike len.toNat (s := { s with mlen := len, mdist := dist })
        (s' := { s' with mlen := len, mdist := dist }) hp ⟨h.next, h.fill, h.recent⟩
        ⟨h'.next, h'.fill, h'.recent⟩ rfl h1 h2 h3
    exact hcopy.bind fun _ _ _ ht => ⟨_, rfl, ht⟩

/-- A token after the same bytes pushes the same and ends in the same way. -/
theorem effect_pushedAlike {f : Effect} (hl : f.legal) (hp : PushedAlike p p' s s') (h : History s e)
    (h' : History s' e) : (f.run s).Alike (PushedAlike p p') (f.run s') := by
  cases f with
  | byte b => exact putByte_pushedAlike b hp h h'
  | copy len dist => exact backReference_pushedAlike hp h h' hl.1 hl.2
  | finish =>
    exact (flush_pushedAlike hp (h.next_eq h') h.window_run h'.window_run).bind fun _ _ _ ht => ⟨_, rfl, ht⟩

end

/-! ### What a token appends -/

/-- A back-reference that ends with a value has its source in the history, and appends its copy (R217, R220). -/
theorem backReference_ok_expand {s t : State} {e : List Byte} {len : BitVec 10} {dist : BitVec 13} (h : History s e)
    (h1 : 1 ≤ dist.toNat) (h3 : dist.toNat ≤ hw.winSize) (ht : backReference len dist s = .ok () t) :
    dist.toNat ≤ e.length ∧ History t (expand len.toNat dist.toNat e) := by
  by_cases hfar : e.length < dist.toNat
  · obtain ⟨hf, hd⟩ := h.tooFar h3 hfar
    rw [backReference_far hf hd] at ht
    cases ht
  · have h2 := Nat.le_of_not_lt hfar
    rw [backReference_near h len h2] at ht
    obtain ⟨_, u, hu, ht⟩ := Res.bind_eq_ok.mp ht
    cases ht
    obtain ⟨kn, kf, kr⟩ := (copyLoop_ok_history len.toNat (s := { s with mlen := len, mdist := dist })
      ⟨h.next, h.fill, h.recent⟩ h1 h2 h3 hu).1
    exact ⟨h2, kn, kf, kr⟩

/-- A token that ends with a value appends to the history what `Effect.apply` says, or it ends the session. -/
theorem effect_ok_apply {f : Effect} {s t : State} {e : List Byte} (hl : f.legal) (h : History s e)
    (ht : f.run s = .ok () t) :
    (∃ e', f.apply e = .ok e' ∧ SameButEmit s t ∧ History t e') ∨
      (f.apply e = .error .success ∧ t.state = .done ∧ t.status = .success) := by
  cases f with
  | byte b => exact .inl ⟨_, rfl, ((putByte_all b s).ok ht).1, (putByte_ok_history h ht).1⟩
  | copy len dist =>
    obtain ⟨h2, hh⟩ := backReference_ok_expand h hl.1 hl.2 ht
    exact .inl ⟨_, if_neg (Nat.not_lt.mpr h2), ((backReference_all len dist s).ok ht).1, hh⟩
  | finish =>
    obtain ⟨_, u, _, ht⟩ := Res.bind_eq_ok.mp ht
    cases ht
    exact .inr ⟨rfl, rfl, rfl⟩

/-- A token that has been run after the same bytes in two cores has pushed the same in both; it has appended the same,
or ended both sessions in the same way. -/
theorem effect_outcomes {p p' : List (List Byte × Bool)} {f : Effect} {u u' t t' : State} {e : List Byte}
    (hl : f.legal) (hp : PushedAlike p p' u u') (h : History u e) (h' : History u' e)
    (ht : (f.run u).toOutcome = .next t) (ht' : (f.run u').toOutcome = .next t') :
    PushedAlike p p' t t' ∧
      ((∃ e', (SameButEmit u t ∧ History t e') ∧ SameButEmit u' t' ∧ History t' e') ∨
        (t.ended = true ∧ t'.state = t.state ∧ t'.status = t.status)) := by
  have halike := effect_pushedAlike hl hp h h'
  rcases Res.toOutcome_eq_next.mp ht with hok | ⟨k, v, hraised, rfl⟩
  · rw [hok] at halike
    obtain ⟨v, hok', hp⟩ := halike
    rw [hok'] at ht'
    cases ht'
    refine ⟨hp, ?_⟩
    rcases effect_ok_apply hl h hok with ⟨e1, happly, hemit⟩ | ⟨happly, hs, hst⟩ <;>
      rcases effect_ok_apply hl h' hok' with ⟨e2, happly', hemit'⟩ | ⟨happly', hs', hst'⟩ <;>
      cases happly.symm.trans happly'
    · exact .inl ⟨e1, hemit, hemit'⟩
    · exact .inr ⟨ended_iff.mpr (.inl hs), hs'.trans hs.symm, hst'.trans hst.symm⟩
  · rw [hraised] at halike
    obtain ⟨v', hraised', hp⟩ := halike
    rw [hraised'] at ht'
    cases ht'
    exact ⟨hp, .inr ⟨rfl, rfl, rfl⟩⟩

/-! ### One session in two cores -/

/-- A running session left to itself that has emitted `e`. -/
structure InSession (s : State) (e : List Byte) : Prop where
  inv : Inv s
  running : s.running = true
  noRequest : s.req = none
  history : History s e

/-- Two cores in the same session: they stand at the same place of the same stream, and have emitted and pushed the same
bytes. Their windows and scratch registers, and what they did before, may differ (R16). -/
structure SameSession (p p' : List (List Byte × Bool)) (e : List Byte) (s s' : State) : Prop where
  left : InSession s e
  right : InSession s' e
  state : s'.state = s.state
  status : s'.status = s.status
  ctx : s'.ctx = s.ctx
  bits : s'.bits = s.bits
  pushed : PushedAlike p p' s s'

/-- Two cores whose sessions have ended in the same way. -/
structure SameEnd (p p' : List (List Byte × Bool)) (s s' : State) : Prop where
  ended : s.ended = true
  noRequest : s.req = none
  noRequest' : s'.req = none
  state : s'.state = s.state
  status : s'.status = s.status
  pushed : PushedAlike p p' s s'

/-- Two cores after the same number of steps of the same session. -/
def SameCourse (p p' : List (List Byte × Bool)) (s s' : State) : Prop :=
  (∃ e, SameSession p p' e s s') ∨ SameEnd p p' s s'

section

variable {p p' : List (List Byte × Bool)} {s s' t t' u u' : State} {e : List Byte}

/-- A step of a running session. -/
theorem InSession.stepsOn (h : InSession s e) : ∃ t, step s = .next t ∧ Inv t ∧ t.req = none :=
  session_step_inv h.inv h.running h.noRequest

theorem InSession.next (h : InSession s e) (hstep : step s = .next t) : Inv t ∧ t.req = none := by
  obtain ⟨_, ht, hnext⟩ := h.stepsOn
  cases hstep.symm.trans ht
  exact hnext

/-- A token that has appended to the history leaves the session in its context, past the token's bits. -/
theorem InSession.token {e' : List Byte} (h : InSession s e) (hu : ReadOnly false s u)
    (ht : SameButEmit u t ∧ History t e') (hstep : step s = .next t) :
    InSession t e' ∧ t.state = s.state ∧ t.status = s.status ∧ t.ctx = s.ctx ∧ t.bits = u.bits := by
  obtain ⟨hemit, hh⟩ := ht
  obtain ⟨hinv, hq⟩ := h.next hstep
  have hstate : t.state = s.state := by rw [hemit, hu.1.1]
  have hrun : t.running = true := by
    have := h.running
    unfold State.running at *; rwa [hstate]
  exact ⟨⟨hinv, hrun, hq, hh⟩, hstate, by rw [hemit, hu.1.1], ctx_of_token hu hemit, hemit.bits⟩

/-- A header that has been read takes the session to its tokens. -/
theorem InSession.enterLoop {lit dict : Byte} (h : InSession s e) (hu : ReadOnly true s u)
    (hstep : step s = .next { u with lit := lit, dict := dict, state := .decodeLoop }) :
    InSession { u with lit := lit, dict := dict, state := .decodeLoop } e :=
  have hh := hu.history h.history
  ⟨(h.next hstep).1, rfl, (h.next hstep).2, hh.next, hh.fill, hh.recent⟩

/-- Both cores meet the same error in the stream (R256, R263). -/
theorem SameSession.error {k : ErrorKind} (h : SameSession p p' e s s') (hu : ReadOnly true s u)
    (hu' : ReadOnly true s' u') : SameCourse p p' (u.raise k) (u'.raise k) := by
  have hpushed : PushedAlike p p' u u' := h.pushed.read hu hu'
  have hq : u.req = none := by rw [hu.1.1]; exact h.left.noRequest
  have hq' : u'.req = none := by rw [hu'.1.1]; exact h.right.noRequest
  exact .inr ⟨rfl, hq, hq', rfl, rfl, hpushed⟩

/-- Both cores read the same header (R212). -/
theorem SameSession.header {lit dict : Byte} (h : SameSession p p' e s s') (hu : ReadOnly true s u)
    (hu' : ReadOnly true s' u') (hbits : u'.bits = u.bits)
    (hstep : step s = .next { u with lit := lit, dict := dict, state := .decodeLoop })
    (hstep' : step s' = .next { u' with lit := lit, dict := dict, state := .decodeLoop }) :
    SameCourse p p' { u with lit := lit, dict := dict, state := .decodeLoop }
      { u' with lit := lit, dict := dict, state := .decodeLoop } := by
  have hstatus : u'.status = u.status := by rw [hu.1.1, hu'.1.1]; exact h.status
  have hpushed : PushedAlike p p' u u' := h.pushed.read hu hu'
  exact .inl ⟨e, h.left.enterLoop hu hstep, h.right.enterLoop hu' hstep', rfl, hstatus, rfl, hbits, hpushed⟩

/-- Both cores run the same token (R213). -/
theorem SameSession.token {f : Effect} (h : SameSession p p' e s s') (hl : f.legal) (hu : ReadOnly false s u)
    (hu' : ReadOnly false s' u') (hbits : u'.bits = u.bits) (hstep : step s = (f.run u).toOutcome)
    (hstep' : step s' = (f.run u').toOutcome) : NextAlike (SameCourse p p') (step s) (step s') := by
  intro t ht
  obtain ⟨t', ht', _, hq'⟩ := h.right.stepsOn
  refine ⟨t', ht', ?_⟩
  obtain ⟨hpushed, ⟨e', hemit, hemit'⟩ | ⟨hend, hstate, hstatus⟩⟩ := effect_outcomes hl (h.pushed.read hu hu')
    (hu.history h.left.history) (hu'.history h.right.history) (hstep.symm.trans ht) (hstep'.symm.trans ht')
  · obtain ⟨hin, hs, hst, hctx, hahead⟩ := h.left.token hu hemit ht
    obtain ⟨hin', hs', hst', hctx', hahead'⟩ := h.right.token hu' hemit' ht'
    exact .inl ⟨e', hin, hin', hs'.trans (h.state.trans hs.symm), hst'.trans (h.status.trans hst.symm),
      hctx'.trans (h.ctx.trans hctx.symm), hahead'.trans (hbits.trans hahead.symm), hpushed⟩
  · exact .inr ⟨hend, (h.left.next ht).2, hq', hstate, hstatus, hpushed⟩

/-- The same session goes the same way in both cores, by what the stream ahead decodes to (R213, R230). -/
theorem SameSession.step (h : SameSession p p' e s s') : NextAlike (SameCourse p p') (step s) (step s') := by
  obtain ⟨hinv, hr, hq, _⟩ := h.left
  obtain ⟨hinv', hr', hq', _⟩ := h.right
  have hreader := hinv.reader hr
  have hfixed := hinv.tablesFixed hr
  have hreader' := hinv'.reader hr'
  have hfixed' := hinv'.tablesFixed hr'
  have hdec' : decode s'.ctx s'.bits = decode s.ctx s.bits := by rw [h.ctx, h.bits]
  cases hdec : decode s.ctx s.bits with
  | error r =>
    obtain ⟨u, hu, hk, hp⟩ := session_step_error hq hr hreader hfixed hinv.ctx_legal hdec
    obtain ⟨u', hu', hk', hp'⟩ := session_step_error hq' hr' hreader' hfixed' hinv'.ctx_legal (hdec'.trans hdec)
    rw [hu, hu']
    exact .next (h.error ⟨hk.weaken, hp⟩ ⟨hk'.weaken, hp'⟩)
  | ok d =>
    obtain ⟨i, rest⟩ := d
    obtain ⟨u, hu, hbits, _, hk, hp, _⟩ := session_step_ok hq hr hreader hfixed hinv.ctx_legal hdec
    obtain ⟨u', hu', hbits', _, hk', hp', _⟩ :=
      session_step_ok hq' hr' hreader' hfixed' hinv'.ctx_legal (hdec'.trans hdec)
    have hahead := hbits'.trans hbits.symm
    rcases running_iff.mp hr with hs | hs
    · obtain ⟨lit, dict, rfl, hl, hd⟩ := decode_header_legal (ctx_of_readHeader hs ▸ hdec)
      rw [exec_hdr_legal hl hd] at hu hu'
      have hcourse := h.header ⟨hk.weaken, hp⟩ ⟨hk'.weaken, hp'⟩ hahead hu hu'
      rw [hu, hu']
      exact .next hcourse
    · have hctx := ctx_of_decodeLoop hs
      obtain ⟨f, hf, hlegal⟩ := decode_token_effect (hinv.header hs).2 (hctx ▸ hdec)
      rw [hctx] at hk
      rw [h.ctx, hctx] at hk'
      exact h.token hlegal ⟨hk, hp⟩ ⟨hk', hp'⟩ hahead (hu.trans (exec_effect hf u)) (hu'.trans (exec_effect hf u'))

/-- A step goes the same way in both cores. -/
theorem SameCourse.step (h : SameCourse p p' s s') : NextAlike (SameCourse p p') (step s) (step s') := by
  rcases h with ⟨e, h⟩ | h
  · exact h.step
  · have he' : s'.ended = true := by have := h.ended; unfold State.ended at *; rwa [h.state]
    rw [step_ended_none h.ended h.noRequest, step_ended_none he' h.noRequest']
    exact .next (.inr h)

/-- A relation of two cores that every step keeps is kept by every run. -/
theorem run_nextAlike {R : State → State → Prop} (hstep : ∀ {s s'}, R s s' → NextAlike R (step s) (step s')) :
    ∀ (k : Nat) {s s' : State}, R s s' → NextAlike R (Sys2Proof.core.run k s) (Sys2Proof.core.run k s')
  | 0, _, _, h => .next h
  | k + 1, _, _, h => fun t ht => by
    obtain ⟨u, hu, ht⟩ := run_succ_eq_next.mp ht
    obtain ⟨u', hu', h⟩ := hstep h u hu
    obtain ⟨t', ht', h⟩ := run_nextAlike hstep k h t ht
    exact ⟨t', run_succ_eq_next.mpr ⟨u', hu', ht'⟩, h⟩

theorem SameCourse.observed (h : SameCourse p p' s s') :
    s'.state = s.state ∧ s'.status = s.status ∧ ∃ q, s.pushes = p ++ q ∧ s'.pushes = p' ++ q := by
  rcases h with ⟨_, h⟩ | h
  · exact ⟨h.state, h.status, h.pushed.2⟩
  · exact ⟨h.state, h.status, h.pushed.2⟩

/-- A new session has emitted nothing (R211). -/
theorem inSession_newSession (h : Inv s) (hr : s.running = false) (hb : s.tablesBuilt = true)
    (hq : s.req = some (.issue .start)) : InSession ({ s with req := none } : State).newSession [] := by
  obtain ⟨t, ht, hinv, hreq⟩ := start_step_inv h hr hb hq
  rw [step_start hr hb hq] at ht
  cases ht
  exact ⟨hinv, rfl, hreq, rfl, rfl, fun p hp => absurd hp (Nat.not_lt_zero p)⟩

/-- Two cores that begin a session on the same input and sink answers are in the same session. -/
theorem sameSession_newSession (h : InSession ({ s with req := none } : State).newSession [])
    (h' : InSession ({ s' with req := none } : State).newSession []) (hsrc : s.src = s'.src)
    (hsink : s.sink = s'.sink) :
    SameSession s.pushes s'.pushes [] ({ s with req := none } : State).newSession
      ({ s' with req := none } : State).newSession := by
  refine ⟨h, h', rfl, rfl, rfl, ?_, hsink.symm, [], (List.append_nil _).symm, (List.append_nil _).symm⟩
  show (upcoming s'.src).flatMap byteBits = (upcoming s.src).flatMap byteBits
  rw [hsrc]

end

/-- Settles O49: the two new sessions are the same (`sameSession_newSession`), every step keeps that
(`SameCourse.step`), and so state, status and pushes agree after any number of steps. -/
theorem sessionsAreIndependent : Obligations.SessionsAreIndependent := by
  intro k s s' t hr hr' hb hb' hi hi' hq hq' hsrc hsink ht
  have hsame := sameSession_newSession (inSession_newSession hi hr hb hq) (inSession_newSession hi' hr' hb' hq')
    hsrc hsink
  obtain ⟨u, hu, ht⟩ := run_succ_eq_next.mp ht
  have hstart : step s = .next u := hu
  rw [step_start hr hb hq] at hstart
  cases hstart
  obtain ⟨t', ht', hcourse⟩ := run_nextAlike SameCourse.step k (.inl ⟨_, hsame⟩) t ht
  obtain ⟨hstate, hstatus, q, hp, hp'⟩ := hcourse.observed
  exact ⟨t', q, run_succ_eq_next.mpr ⟨_, step_start hr' hb' hq', ht'⟩, hstate, hstatus, hp, hp'⟩

end Sys2Proof.Machine

/-! SUPPORT. Reset, the boot build, and what a step has pushed when it ends a session (70_reset_and_hazards.md). -/

namespace Sys2Proof.Machine

/-! ### Hardware reset and the boot build -/

/-- Settles O1: hardware reset comes first in any state (`step_hardReset`), and leaves what is bound to the
interfaces. -/
theorem hardResetFromAnyState : Obligations.HardResetFromAnyState := by
  have hreset : AfterReset State.reset := ⟨rfl, rfl, rfl, rfl, rfl, rfl, rfl, rfl⟩
  exact ⟨hreset, fun s hq => ⟨s.hardReset, step_hardReset hq, hreset, rfl, rfl, rfl⟩⟩

/-- Settles O2: in `Idle` without tables the step is the boot build, and `boot_spec` says what that leaves. -/
theorem bootBuildsTables : Obligations.BootBuildsTables := by
  intro s hs hb hreset hstart hsizes
  obtain ⟨t, ht, hfixed, e⟩ := boot_spec hsizes
  have hboot : s.booting = true := by rw [State.booting, hs, hb]; rfl
  refine ⟨t, by rw [step_boot hreset hstart hboot, ht, Res.toOutcome_ok], by rw [e], hfixed, ?_⟩
  rw [e]

/-! ### The pushes of a step that ends a session -/

/-- What has been pushed where an operation from `s` raises `k` in `t`: nothing, or for `OutputError` a push that
failed, as the last transaction (R254, R258). -/
def RaisesAfter (s : State) (k : ErrorKind) (t : State) : Prop :=
  (k ≠ .outputError → t.pushes = s.pushes) ∧
    (k = .outputError → ∃ bytes, t.bus.getLast? = some (.push bytes true))

/-- A flush raises at its failed push, whatever has been pushed since `s` (R254). -/
theorem flush_raisesAfter {s u t : State} {k : ErrorKind} (h : flush u = .raised k t) : RaisesAfter s k t := by
  obtain ⟨hk, _, bytes, _, hbus⟩ := flush_raised h
  exact ⟨fun hne => absurd hk hne, fun _ => ⟨bytes, by rw [hbus, List.getLast?_concat]⟩⟩

theorem putByte_raisesAfter {b : Byte} {s u t : State} {k : ErrorKind} (h : putByte b u = .raised k t) :
    RaisesAfter s k t := flush_raisesAfter (putByte_raised h).2.1

theorem copyLoop_raisesAfter {s : State} : ∀ (n : Nat) {u t : State} {k : ErrorKind},
    copyLoop n u = .raised k t → RaisesAfter s k t
  | 0, _, _, _, h => by cases h
  | n + 1, u, t, k, h => by
    rcases Res.bind_eq_raised.mp h with h | ⟨b, v, _, h⟩
    · unfold readWin at h
      split at h <;> cases h
    · rcases Res.bind_eq_raised.mp h with h | ⟨_, w, _, h⟩
      · exact putByte_raisesAfter h
      · exact copyLoop_raisesAfter n h

/-- A back-reference raises before it emits anything, or at a failed push (R220, R253, R254). -/
theorem backReference_raisesAfter {len : BitVec 10} {dist : BitVec 13} {s t : State} {k : ErrorKind}
    (h : backReference len dist s = .raised k t) : RaisesAfter s k t := by
  unfold backReference at h
  dsimp only at h
  split at h
  · cases h
    exact ⟨fun _ => rfl, (nomatch ·)⟩
  · rcases Res.bind_eq_raised.mp h with h | ⟨_, _, _, h⟩
    · exact copyLoop_raisesAfter _ h
    · cases h

theorem effect_raisesAfter {f : Effect} {s t : State} {k : ErrorKind} (h : f.run s = .raised k t) :
    RaisesAfter s k t := by
  cases f with
  | byte b => exact putByte_raisesAfter h
  | copy len dist => exact backReference_raisesAfter h
  | finish =>
    rcases Res.bind_eq_raised.mp h with h | ⟨_, _, _, h⟩
    · exact flush_raisesAfter h
    · cases h

/-- A flush that is accepted has made one push, its last transaction, or none (R196, D7). -/
theorem flush_ok_pushes {s t : State} (h : flush s = .ok () t) : t.pushes = s.pushes ∨
    ∃ bytes, t.pushes = s.pushes ++ [(bytes, false)] ∧ t.bus.getLast? = some (.push bytes false) := by
  rcases flush_cases (s := s) with ⟨_, e⟩ | ⟨_, _, e⟩ | ⟨bytes, _, _, e⟩ <;> rw [e] at h
  · cases h
    exact .inl rfl
  · cases h
  · split at h
    · cases h
    · rename_i hans
      cases h
      rw [Bool.not_eq_true] at hans
      exact .inr ⟨bytes, by rw [push_pushes, hans], by rw [push_eq, hans, List.getLast?_concat]⟩

/-- What a step from `s` to `t` has pushed where it ends a session (R301). -/
def EndsAfterPushes (s t : State) : Prop :=
  (t.state = .error → (t.status ≠ .failed .outputError → t.pushes = s.pushes) ∧
    (t.status = .failed .outputError → ∃ bytes, t.bus.getLast? = some (.push bytes true))) ∧
  (t.state = .done → t.status = .success ∧ (t.pushes = s.pushes ∨
    ∃ bytes, t.pushes = s.pushes ++ [(bytes, false)] ∧ t.bus.getLast? = some (.push bytes false)))

/-- A step that leaves the session running, or the core without one. -/
theorem endsAfterPushes_of_not_ended {s t : State} (h : t.ended = false) : EndsAfterPushes s t :=
  ⟨fun he => absurd (ended_iff.mpr (.inr he)) (Bool.eq_false_iff.mp h),
    fun hd => absurd (ended_iff.mpr (.inl hd)) (Bool.eq_false_iff.mp h)⟩

theorem endsAfterPushes_raise {s t : State} {k : ErrorKind} (h : RaisesAfter s k t) :
    EndsAfterPushes s (t.raise k) :=
  ⟨fun _ => ⟨fun hne => h.1 fun hk => hne (congrArg Status.failed hk), fun he => h.2 (Status.failed.inj he)⟩,
    (nomatch ·)⟩

/-- An error met while reading the stream comes before any push (R139, R263); a read raises no `OutputError`. -/
theorem raisesAfter_read {h : Bool} {s u : State} {k : ErrorKind} (hu : ReadOnly h s u) (hk : k ≠ .outputError) :
    RaisesAfter s k u :=
  ⟨fun _ => hu.2, fun he => absurd he hk⟩

/-- A token run at `u`, which reading from `s` has led to. -/
theorem effect_endsAfterPushes {f : Effect} {s u t : State} {h : Bool} (hu : ReadOnly h s u) (hs : u.ended = false)
    (ht : (f.run u).toOutcome = .next t) : EndsAfterPushes s t := by
  rcases Res.toOutcome_eq_next.mp ht with hok | ⟨k, v, hraised, rfl⟩
  · have hemit (he : SameButEmit u t) : EndsAfterPushes s t :=
      endsAfterPushes_of_not_ended (by rw [he]; exact hs)
    cases f with
    | byte b => exact hemit ((putByte_all b u).ok hok).1
    | copy len dist => exact hemit ((backReference_all len dist u).ok hok).1
    | finish =>
      obtain ⟨_, v, hv, hok⟩ := Res.bind_eq_ok.mp hok
      cases hok
      have hpushes := flush_ok_pushes hv
      rw [hu.2] at hpushes
      exact ⟨(nomatch ·), fun _ => ⟨rfl, hpushes⟩⟩
  · refine endsAfterPushes_raise ?_
    rw [RaisesAfter, ← hu.2]
    exact effect_raisesAfter hraised

theorem headerLit_ok {lit : Byte} {a : Unit} {s t : State} (h : headerLit lit s = .ok a t) : legalLit lit = true := by
  unfold headerLit at h
  dsimp only at h
  split at h
  · assumption
  · cases h

theorem headerDict_ok {dict : Byte} {a : Unit} {s t : State} (h : headerDict dict s = .ok a t) :
    legalDict dict = true := by
  unfold headerDict at h
  dsimp only at h
  split at h
  · assumption
  · cases h

/-- A header fetched has passed both checks (R212). -/
theorem fetchHeader_ok_legal {s t : State} {i : Instr} (h : fetchHeader s = .ok i t) :
    ∃ lit dict, i = .hdr lit dict ∧ legalLit lit = true ∧ legalDict dict = true := by
  obtain ⟨lit, _, _, h⟩ := Res.bind_eq_ok.mp h
  obtain ⟨_, _, hlit, h⟩ := Res.bind_eq_ok.mp h
  obtain ⟨dict, _, _, h⟩ := Res.bind_eq_ok.mp h
  obtain ⟨_, _, hdict, h⟩ := Res.bind_eq_ok.mp h
  cases h
  exact ⟨lit, dict, rfl, headerLit_ok hlit, headerDict_ok hdict⟩

/-- A session's fetch raises no `OutputError` (R139). -/
theorem fetch_session_raised {s u : State} {k : ErrorKind} (h : fetch s.ctx s = .raised k u) : k ≠ .outputError := by
  unfold State.ctx at h
  split at h
  · exact (fetchToken_raises (P := (· ≠ .outputError)) (nomatch ·) (nomatch ·) s).raised h
  · exact (fetchHeader_raises (P := (· ≠ .outputError)) (nomatch ·) (nomatch ·) s).raised h

/-- A step of a running session, in any state: its fetch raises, or its instruction runs at a state the fetch has led
to. -/
theorem session_endsAfterPushes {s t : State} (hr : s.running = true) (hq : s.req = none)
    (ht : step s = .next t) : EndsAfterPushes s t := by
  rw [step_session hq hr] at ht
  rcases runFetched_eq_next.mp ht with ⟨i, u, hu, hexec⟩ | ⟨k, u, hu, rfl⟩
  · have hread := (fetch_all s.ctx s).ok hu
    rcases running_iff.mp hr with hs | hs
    · rw [ctx_of_readHeader hs] at hu
      obtain ⟨lit, dict, rfl, hl, hd⟩ := fetchHeader_ok_legal hu
      rw [exec_hdr_legal hl hd] at hexec
      cases hexec
      exact endsAfterPushes_of_not_ended rfl
    · rw [ctx_of_decodeLoop hs] at hu
      obtain ⟨f, hf⟩ := fetchToken_effect hu
      have hrunning : u.ended = false := by
        have hstate : u.state = .decodeLoop := by rw [hread.1.1]; exact hs
        rw [State.ended, hstate]
      rw [exec_effect hf] at hexec
      exact effect_endsAfterPushes hread hrunning hexec
  · exact endsAfterPushes_raise (raisesAfter_read ((fetch_all s.ctx s).raised hu) (fetch_session_raised hu))

/-- Settles O43: hardware reset, `start`, the boot build and a core without a session enter neither `Done` nor `Error`,
and a session's step has pushed what `session_endsAfterPushes` says. -/
theorem noOutputAfterFailureNoSuccessBeforeLastPush :
    Obligations.NoOutputAfterFailureNoSuccessBeforeLastPush := by
  intro s t hhost h
  have hpushed (ht : EndsAfterPushes s t) := And.intro (fun (_ : s.state ≠ .error) => ht.1)
    fun (_ : s.state ≠ .done) => ht.2
  rcases hhost with hq | hq | hq
  · cases hr : s.running with
    | true => exact hpushed (session_endsAfterPushes hr hq h)
    | false =>
      have hstate : t.state = s.state := by
        cases hb : s.booting with
        | true => exact boot_state (step_boot (by simp [hq]) (by simp [hq]) hb ▸ h)
        | false =>
          rw [step_quiet hq hr hb] at h
          cases h
          rfl
      rw [hstate]
      exact ⟨fun hne he => absurd he hne, fun hne hd => absurd hd hne⟩
  · rw [step_hardReset hq] at h
    cases h
    exact hpushed (endsAfterPushes_of_not_ended rfl)
  · have hstate := (start_transition hq h).2
    exact hpushed (endsAfterPushes_of_not_ended (by rw [State.ended, hstate]))

end Sys2Proof.Machine

/-! SUPPORT. A wrap put to the window before it is full (43_sliding_window.md). -/

namespace Sys2Proof.Machine

/-- A wrap is a flush, after which `next` and `first_fill` are cleared (R197). -/
theorem exec_wrap (s : State) : exec .wrap s =
    ((flush s).bind fun _ u => .ok () { u with next := 0, firstFill := false }).toOutcome := rfl

/-- Settles O31: with nothing buffered the flush is `flush_empty` and `next` is 0 already; else `flush_then`, and what
follows clears `next` and `first_fill`. -/
theorem wrapBeforeFull : Obligations.WrapBeforeFull := by
  intro s
  rw [exec_wrap]
  refine ⟨fun h => ?_, fun h0 hlt hwritten => ?_⟩
  · rw [flush_empty (by rw [h]; rfl), Res.bind_ok, Res.toOutcome_ok, ← h]
  · exact flush_then (fun _ => rfl) (toNat_next_ne_zero h0) (Nat.le_of_lt hlt) hwritten

end Sys2Proof.Machine
